-- ==== Sys2Proof/Word.lean ====
section
/-!
DEFINITION. The widths of `spec/00_scope.md` R7: 8-bit values, the 16-bit command word and `ERRCMD`, and the 9-bit
counters `ITER`, `WIDX` and `E_POS`.
-/

namespace Sys2Proof

/-- An 8-bit datapath value (R7). -/
abbrev Byte := BitVec 8

/-- A 16-bit command word (R90), also the width of `ERRCMD` (R54). -/
abbrev Word := BitVec 16

/-- A 9-bit counter (R7): `ITER`, `WIDX` or `E_POS`. -/
abbrev Count := BitVec 9

end Sys2Proof
end

