-- ==== Sys2Proof/Syntax.lean ====
section
/-!
DEFINITION. One constructor per row of `spec/opcode_table.json`: the 25 host commands of `spec/30_encoding.md` R95 and
the two device-link command codes of R102. Every host command carries its 8-bit operand, the ignored ones too: an
ignored operand has no effect (R98) but is part of the command word that a fault records (R224).
-/

namespace Sys2Proof

inductive Instr where
  /-- `0x00` `NOP`, operand ignored (R200). -/
  | nop (v : Byte)
  /-- `0x01` `CK_INIT`, operand ignored (R123). -/
  | ckInit (v : Byte)
  /-- `0x02` `CK_FEED`, data byte (R124). -/
  | ckFeed (b : Byte)
  /-- `0x03` `CK_RDHI`, operand ignored (R125). -/
  | ckRdHi (v : Byte)
  /-- `0x04` `CK_RDLO`, operand ignored (R126). -/
  | ckRdLo (v : Byte)
  /-- `0x10` `ENC_BEGIN`, command code (R142). -/
  | encBegin (c : Byte)
  /-- `0x11` `ENC_PUSH`, payload byte (R143). -/
  | encPush (b : Byte)
  /-- `0x12` `ENC_SEND`, operand ignored (R144). -/
  | encSend (v : Byte)
  /-- `0x13` `ENC_TELEM`, operand ignored (R145). -/
  | encTelem (v : Byte)
  /-- `0x14` `ENC_MANUAL`, selector, legal when 0 or 1 (R146). -/
  | encManual (v : Byte)
  /-- `0x20` `CAP_START`, operand ignored (R171). -/
  | capStart (v : Byte)
  /-- `0x21` `POLL`, operand ignored (R172). -/
  | poll (v : Byte)
  /-- `0x22` `CAP_RD`, index (R173). -/
  | capRd (i : Byte)
  /-- `0x23` `CAP_LENLO`, operand ignored (R174). -/
  | capLenLo (v : Byte)
  /-- `0x24` `CAP_LENHI`, operand ignored (R174). -/
  | capLenHi (v : Byte)
  /-- `0x25` `CAP_ITERLO`, operand ignored (R175). -/
  | capIterLo (v : Byte)
  /-- `0x26` `CAP_ITERHI`, operand ignored (R175). -/
  | capIterHi (v : Byte)
  /-- `0x30` `RD_STATUS`, operand ignored (R201). -/
  | rdStatus (v : Byte)
  /-- `0x31` `RD_ERR`, operand ignored (R202). -/
  | rdErr (v : Byte)
  /-- `0x32` `RD_CAUSE`, operand ignored (R203). -/
  | rdCause (v : Byte)
  /-- `0x33` `RD_ERRCMDHI`, operand ignored (R204). -/
  | rdErrCmdHi (v : Byte)
  /-- `0x34` `RD_ERRCMDLO`, operand ignored (R205). -/
  | rdErrCmdLo (v : Byte)
  /-- `0x35` `RD_DEVID`, operand ignored (R206). -/
  | rdDevId (v : Byte)
  /-- `0x36` `CFG_DEVID`, device id (R207). -/
  | cfgDevId (d : Byte)
  /-- `0x3F` `RESET`, operand ignored (R208). -/
  | reset (v : Byte)
  /-- The device-link command code `0xA0` (R102, R103), not a host command. -/
  | wireTelemetryRequest
  /-- The device-link command code `0xAA` (R102, R104), not a host command. -/
  | wireManualControl
  deriving DecidableEq, Repr

end Sys2Proof
end

