-- ==== Sys2Proof/WellFormed.lean ====
section
/-!
DEFINITION. When an instruction's operand is legal. An operand field is 8 bits wide and only `ENC_MANUAL` restricts it
(`spec/30_encoding.md` R91, R98, R99). An ill-formed `ENC_MANUAL` still decodes and still has a meaning: executing it
raises `ILLEGAL_OPERAND`.
-/

namespace Sys2Proof

/-- The instruction's operand is legal (R94, R99): the `ENC_MANUAL` selector is 0 or 1, every other operand is
unrestricted. -/
def Instr.wellFormed : Instr → Bool
  | .encManual v => decide (v.toNat ≤ 1)
  | .nop _ => true
  | .ckInit _ => true
  | .ckFeed _ => true
  | .ckRdHi _ => true
  | .ckRdLo _ => true
  | .encBegin _ => true
  | .encPush _ => true
  | .encSend _ => true
  | .encTelem _ => true
  | .capStart _ => true
  | .poll _ => true
  | .capRd _ => true
  | .capLenLo _ => true
  | .capLenHi _ => true
  | .capIterLo _ => true
  | .capIterHi _ => true
  | .rdStatus _ => true
  | .rdErr _ => true
  | .rdCause _ => true
  | .rdErrCmdHi _ => true
  | .rdErrCmdLo _ => true
  | .rdDevId _ => true
  | .cfgDevId _ => true
  | .reset _ => true
  | .wireTelemetryRequest => true
  | .wireManualControl => true

end Sys2Proof
end

