-- ==== Sys2Proof/Decode.lean ====
section
/-!
DEFINITION. The decoder, total on every 16-bit command word, every device-link code byte and every byte sequence
(`spec/30_encoding.md` R90, R94, R95, R96, R102, R106; `spec/20_memory.md` R74), and after it the encoder, written from
the same table.
-/

namespace Sys2Proof

/-- The two encodings that meet at the block: a word of the host command port, or a command code on the device link. -/
inductive Code where
  /-- A 16-bit command word, opcode in bits 15 to 8 and operand in bits 7 to 0 (R90). -/
  | command (w : Word)
  /-- A command-code byte of a device-link frame (R102). -/
  | link (b : Byte)
  deriving DecidableEq, Repr

/-- Why the decoder refuses. -/
inductive Rejection where
  /-- The opcode is one of the 231 unassigned ones (R96); executing the word raises `ILLEGAL_CMD`. -/
  | illegalCmd (w : Word)
  /-- The byte is neither `0xA0` nor `0xAA`, the two codes R102 fixes. -/
  | notAFixedLinkCode (b : Byte)
  /-- Fewer than the two bytes a command word takes (R74). -/
  | truncated
  deriving DecidableEq, Repr

/-- `op = w[15:8]` (R94). -/
def opcodeField (w : Word) : Byte := w.extractLsb' 8 8

/-- `v = w[7:0]` (R94). -/
def operandField (w : Word) : Byte := w.extractLsb' 0 8

/-- The opcode map of R95. -/
def decodeFields (op v : Byte) : Except Rejection Instr :=
  match op.toNat with
  | 0x00 => .ok (.nop v)
  | 0x01 => .ok (.ckInit v)
  | 0x02 => .ok (.ckFeed v)
  | 0x03 => .ok (.ckRdHi v)
  | 0x04 => .ok (.ckRdLo v)
  | 0x10 => .ok (.encBegin v)
  | 0x11 => .ok (.encPush v)
  | 0x12 => .ok (.encSend v)
  | 0x13 => .ok (.encTelem v)
  | 0x14 => .ok (.encManual v)
  | 0x20 => .ok (.capStart v)
  | 0x21 => .ok (.poll v)
  | 0x22 => .ok (.capRd v)
  | 0x23 => .ok (.capLenLo v)
  | 0x24 => .ok (.capLenHi v)
  | 0x25 => .ok (.capIterLo v)
  | 0x26 => .ok (.capIterHi v)
  | 0x30 => .ok (.rdStatus v)
  | 0x31 => .ok (.rdErr v)
  | 0x32 => .ok (.rdCause v)
  | 0x33 => .ok (.rdErrCmdHi v)
  | 0x34 => .ok (.rdErrCmdLo v)
  | 0x35 => .ok (.rdDevId v)
  | 0x36 => .ok (.cfgDevId v)
  | 0x3F => .ok (.reset v)
  | _ => .error (.illegalCmd (op ++ v))

/-- `decode(w)` (R106). -/
def decodeCommand (w : Word) : Except Rejection Instr := decodeFields (opcodeField w) (operandField w)

/-- The command codes R102 fixes. -/
def decodeLink (b : Byte) : Except Rejection Instr :=
  match b.toNat with
  | 0xA0 => .ok .wireTelemetryRequest
  | 0xAA => .ok .wireManualControl
  | _ => .error (.notAFixedLinkCode b)

/-- R106, and R102 for a link code. -/
def decode : Code → Except Rejection Instr
  | .command w => decodeCommand w
  | .link b => decodeLink b

/-- A command word carried as bytes, the opcode byte first (R74), with the bytes after it. -/
def decodeBytes : List Byte → Except Rejection (Instr × List Byte)
  | op :: v :: rest =>
    match decodeCommand (op ++ v) with
    | .ok i => .ok (i, rest)
    | .error r => .error r
  | [_] => .error .truncated
  | [] => .error .truncated

/-- An instruction of the opcode table from its bits, numbered as the table numbers them: a host command is one 16-bit
word, laid out opcode byte first (R74) and given to `decodeBytes`; a device-link code is one byte. -/
def decodeTableWord (nbits w : Nat) : Option Instr :=
  if nbits = 16 then
    match decodeBytes [BitVec.ofNat 8 (w / 256), BitVec.ofNat 8 w] with
    | .ok (i, _) => some i
    | .error _ => none
  else if nbits = 8 then
    match decodeLink (BitVec.ofNat 8 w) with
    | .ok i => some i
    | .error _ => none
  else none

/-- The code of an instruction: `(opcode << 8) | operand` for a host command (R95, R110), the code byte for a
device-link one (R102). -/
def encode : Instr → Code
  | .nop v => .command (0x00#8 ++ v)
  | .ckInit v => .command (0x01#8 ++ v)
  | .ckFeed b => .command (0x02#8 ++ b)
  | .ckRdHi v => .command (0x03#8 ++ v)
  | .ckRdLo v => .command (0x04#8 ++ v)
  | .encBegin c => .command (0x10#8 ++ c)
  | .encPush b => .command (0x11#8 ++ b)
  | .encSend v => .command (0x12#8 ++ v)
  | .encTelem v => .command (0x13#8 ++ v)
  | .encManual v => .command (0x14#8 ++ v)
  | .capStart v => .command (0x20#8 ++ v)
  | .poll v => .command (0x21#8 ++ v)
  | .capRd i => .command (0x22#8 ++ i)
  | .capLenLo v => .command (0x23#8 ++ v)
  | .capLenHi v => .command (0x24#8 ++ v)
  | .capIterLo v => .command (0x25#8 ++ v)
  | .capIterHi v => .command (0x26#8 ++ v)
  | .rdStatus v => .command (0x30#8 ++ v)
  | .rdErr v => .command (0x31#8 ++ v)
  | .rdCause v => .command (0x32#8 ++ v)
  | .rdErrCmdHi v => .command (0x33#8 ++ v)
  | .rdErrCmdLo v => .command (0x34#8 ++ v)
  | .rdDevId v => .command (0x35#8 ++ v)
  | .cfgDevId d => .command (0x36#8 ++ d)
  | .reset v => .command (0x3F#8 ++ v)
  | .wireTelemetryRequest => .link 0xA0#8
  | .wireManualControl => .link 0xAA#8

/-- A code as the bytes that carry it, the opcode byte first (R74). -/
def codeBytes : Code → List Byte
  | .command w => [opcodeField w, operandField w]
  | .link b => [b]

/-- The bytes of an instruction. -/
def encodeBytes (i : Instr) : List Byte := codeBytes (encode i)

/-- The 16-bit word that a fault of this command records in `ERRCMD` (R54, R224). A device-link code raises no fault;
for it the word is the code byte, zero-extended. -/
def commandWord (i : Instr) : Word :=
  match encode i with
  | .command w => w
  | .link b => b.setWidth 16

end Sys2Proof
end

