-- ==== Sys2Proof/Config.lean ====
section
/-!
DEFINITION. The implementation parameters of `spec/00_scope.md` R6 that the document does not fix. The fixed ones
(`CAPACITY`, `PREAMBLE`, `TERMINATOR`, the command codes, `TELEMETRY_CK`, `BAUD`) are in Machine/Operands.lean and
Machine/Timing.lean.
-/

namespace Sys2Proof

/-- The parameters that differ from block to block (R6). The state carries one value of them that no step changes, so a
statement about every state is a statement about every block (DESIGN CHOICE, log 4). -/
structure Params where
  /-- `RX_DEPTH`, OPEN, an integer ≥ 1: how many bytes the receive queue holds. -/
  rxDepth : Nat
  /-- `BITS_PER_CHAR`, OPEN: read by the timing formulas alone. -/
  bitsPerChar : Nat
  /-- `DEVID_RESET`: the value `DEVID` takes at reset. -/
  devIdReset : Byte
  deriving DecidableEq, Repr

/-- `RX_DEPTH - 1` of the block that `State.reset` describes: a free value, nothing constrains it (log 4). -/
opaque Config.rxDepthLessOne : Nat

/-- `BITS_PER_CHAR` of the block that `State.reset` describes: a free value (log 4). -/
opaque Config.bitsPerChar : Nat

/-- The parameters of the block that `State.reset` describes: the OPEN ones free, `RX_DEPTH ≥ 1`, and `DEVID_RESET` at
its default `0x16` (R6; log 5). -/
def Config.params : Params :=
  { rxDepth := Config.rxDepthLessOne + 1, bitsPerChar := Config.bitsPerChar, devIdReset := 0x16#8 }

end Sys2Proof
end

