-- ==== Sys2Proof/Machine/State.lean ====
section
/-!
DEFINITION. The state of the block (`spec/10_state.md` R30 to R61) as plain data, with what the model keeps of its
environment: the link's transmit history, the ports' values in the last step, and the steps still to come.
-/

namespace Sys2Proof.Machine

/-- One byte store: (index, byte) pairs, indices strictly rising, no pair holding `0x00`, which is what an unlisted
index reads as: the reset contents of R61. -/
abbrev Memory := List Host.Cell

/-- `CK_STATE` (R32): how many seed bytes the engine has absorbed. -/
inductive CkState where
  /-- 0: none. -/
  | empty
  /-- 1: one byte. -/
  | one
  /-- 2: two bytes or more. -/
  | run
  deriving DecidableEq, Repr

/-- `ENC_STATE` (R37). -/
inductive EncState where
  /-- 0: no frame in hand. -/
  | idle
  /-- 1: a payload is being pushed. -/
  | assemble
  /-- 2: a frame is being handed to the link. -/
  | emit
  deriving DecidableEq, Repr

/-- `CAP_STATE` (R46). -/
inductive CapState where
  /-- 0: no capture since reset. -/
  | cIdle
  /-- 1: an iteration is about to test for a byte. -/
  | check
  /-- 2: a byte was stored and the inter-byte delay runs. -/
  | wait
  /-- 3: all iterations have run. -/
  | done
  deriving DecidableEq, Repr

/-- The six faults of R220. None of them stops the machine (R226): each is recorded and the step is a next state. -/
inductive FaultKind where
  /-- Code 1: an unassigned opcode. -/
  | illegalCmd
  /-- Code 2: an `ENC_MANUAL` selector above 1. -/
  | illegalOperand
  /-- Code 3: the unit or the link is in use. -/
  | busy
  /-- Code 4: an encoder command outside `ASSEMBLE`. -/
  | encSeq
  /-- Code 5: a 256th payload byte. -/
  | encOvf
  /-- Code 6: a checksum read with fewer than two bytes fed. -/
  | ckShort
  deriving DecidableEq, Repr

/-- One step of one agent (R10, R11): a host command, or one of the four events of R105. -/
inductive Input where
  /-- The host offers a command word (R93). -/
  | command (w : Word)
  /-- The link's transmit side takes the next frame byte (R150). -/
  | txAccept
  /-- The link's receive side delivers a byte (R176). -/
  | rxArrive (b : Byte)
  /-- The capture tests for a byte (R177). -/
  | capCheck
  /-- The inter-byte delay ends (R178). -/
  | timerExpire
  deriving DecidableEq, Repr

/-- What stops the machine. The block's own faults (`FaultKind`) are none of these. -/
inductive Fault where
  /-- Raised by `CAP_CHECK` when it would store at an index of `BUF` that does not exist (R70). Safe: only a state that
  breaks R60(a), (b) reaches it, and the spec gives no effect there. -/
  | bufIndexOutOfRange
  /-- Raised by `TX_ACCEPT` when `E_POS` is past the frame's last byte, where `FrameByte` is not defined (R140). Safe:
  only a state that breaks R45 reaches it, and the spec gives no effect there. -/
  | frameIndexOutOfRange
  deriving DecidableEq, Repr

inductive Refusal where
  /-- An instruction that has no meaning in the model. Raised by no arm: every instruction has its meaning. Safe. -/
  | notModelled (mnemonic : String)
  deriving DecidableEq, Repr

structure State where
  /-- The block's parameters (R6). No step changes them (log 4). -/
  params : Params
  /-- `CK_STATE` (R32). -/
  ckState : CkState
  /-- `R1` (R33). -/
  r1 : Byte
  /-- `R2` (R34). -/
  r2 : Byte
  /-- `R3` (R35). -/
  r3 : Byte
  /-- `R4` (R35). -/
  r4 : Byte
  /-- `DEVID` (R36). -/
  devId : Byte
  /-- `ENC_STATE` (R37). -/
  encState : EncState
  /-- `E_CMD` (R38). -/
  eCmd : Byte
  /-- `PBUF[0..254]` (R39). -/
  pbuf : Memory
  /-- `PLEN` (R40). -/
  plen : Byte
  /-- `E_DEV` (R41). -/
  eDev : Byte
  /-- `E_CKHI` (R42). -/
  eCkHi : Byte
  /-- `E_CKLO` (R42). -/
  eCkLo : Byte
  /-- `E_POS` (R43). -/
  ePos : Count
  /-- `POLL_PEND` (R44). -/
  pollPend : Bool
  /-- `CAP_STATE` (R46). -/
  capState : CapState
  /-- `ITER` (R47). -/
  iter : Count
  /-- `WIDX` (R48). -/
  widx : Count
  /-- `BUF[0..255]` (R49). -/
  buf : Memory
  /-- `RXQ` (R50), its head first. -/
  rxq : List Byte
  /-- `ERR` (R52). -/
  err : Byte
  /-- `FIRSTERR` (R53). -/
  firstErr : Byte
  /-- `ERRCMD` (R54). -/
  errCmd : Word
  /-- The response port in the last step taken from the agenda: the byte it returned, or none (R92; log 7). -/
  response : Option Byte
  /-- The fault the last step's command raised: the fault outcome of R225 (log 7). -/
  raised : Option FaultKind
  /-- The link's transmit history (R150), oldest byte first. It lives in the environment (R208; log 8). -/
  txHistory : List Byte
  /-- The steps the agents will take, next one first (R10, R76; log 1). -/
  agenda : List Input
  deriving DecidableEq, Repr

/-- The block of parameters `p` right after power-on (R61, R250 to R252). -/
def State.powerOn (p : Params) : State :=
  { params := p
    ckState := .empty, r1 := 0x00#8, r2 := 0x00#8, r3 := 0x00#8, r4 := 0x00#8
    devId := p.devIdReset
    encState := .idle, eCmd := 0x00#8, pbuf := [], plen := 0x00#8, eDev := 0x00#8, eCkHi := 0x00#8, eCkLo := 0x00#8
    ePos := 0#9, pollPend := false
    capState := .cIdle, iter := 0#9, widx := 0#9, buf := [], rxq := []
    err := 0x00#8, firstErr := 0x00#8, errCmd := 0x0000#16
    response := none, raised := none, txHistory := [], agenda := [] }

/-- The machine right after reset (R61), waiting for the host's first command (R252). -/
def State.reset : State := State.powerOn Config.params

end Sys2Proof.Machine
end

