-- ==== Sys2Proof/Machine/Flags.lean ====
section
/-!
DEFINITION. The flag computations: the field codes and the `STATUS` view of `spec/10_state.md` R32, R37, R46, R55, and
the fault codes and `ERR` bits of R56 and `spec/60_exceptions.md` R220.
-/

namespace Sys2Proof.Machine

/-- The 2-bit code of `CK_STATE` (R32). -/
def ckCode : CkState → BitVec 2
  | .empty => 0#2
  | .one => 1#2
  | .run => 2#2

/-- The 2-bit code of `ENC_STATE` (R37). -/
def encCode : EncState → BitVec 2
  | .idle => 0#2
  | .assemble => 1#2
  | .emit => 2#2

/-- The 2-bit code of `CAP_STATE` (R46). -/
def capCode : CapState → BitVec 2
  | .cIdle => 0#2
  | .check => 1#2
  | .wait => 2#2
  | .done => 3#2

/-- `STATUS` (R55): bit 7 `ERR_ANY`, bit 6 `POLL_PEND`, bits 5:4 `CAP_STATE`, bits 3:2 `ENC_STATE`, bits 1:0
`CK_STATE`. -/
def statusView (s : State) : Byte :=
  BitVec.ofBool (s.err != 0x00#8) ++ BitVec.ofBool s.pollPend ++ capCode s.capState ++ encCode s.encState
    ++ ckCode s.ckState

/-- A capture is active: `CAP_STATE ∈ {CHECK, WAIT}` (R46). -/
def capActive (s : State) : Bool :=
  match s.capState with
  | .cIdle => false
  | .check => true
  | .wait => true
  | .done => false

/-- The code of a fault (R220). -/
def faultCode : FaultKind → Byte
  | .illegalCmd => 1#8
  | .illegalOperand => 2#8
  | .busy => 3#8
  | .encSeq => 4#8
  | .encOvf => 5#8
  | .ckShort => 6#8

/-- The `ERR` bit of a fault: `1 << (code - 1)` (R56, R224). -/
def errBit (f : FaultKind) : Byte := 1#8 <<< (faultCode f - 1#8).toNat

end Sys2Proof.Machine
end

