-- ==== Sys2Proof/Machine/Operands.lean ====
section
/-!
DEFINITION. The operand forms of `spec/30_encoding.md` R91 and R94, the response class of R92, the byte halves of the
wide registers (`spec/20_memory.md` R74), and the constants `spec/00_scope.md` R6 fixes for the frames and the capture.
-/

namespace Sys2Proof.Machine

/-- An index operand, `zext_9(v)` (R91(b), R94). -/
def indexOperand (v : Byte) : Nat := (v.setWidth 9).toNat

/-- The `ENC_MANUAL` selector is legal when it is 0 or 1 (R99). -/
def selectorLegal (v : Byte) : Bool := decide (v.toNat ≤ 1)

/-- The `..LO` byte of a counter: bits 7 to 0 (R74). -/
def counterLo (c : Count) : Byte := c.extractLsb' 0 8

/-- The `..HI` byte of a counter: `zext_8(bit 8)` (R74). -/
def counterHi (c : Count) : Byte := (c.extractLsb' 8 1).setWidth 8

/-- Bits 15 to 8 of a 16-bit register (R74). -/
def wordHi (w : Word) : Byte := w.extractLsb' 8 8

/-- Bits 7 to 0 of a 16-bit register (R74). -/
def wordLo (w : Word) : Byte := w.extractLsb' 0 8

/-- The response class of R92: the 13 commands that return exactly one byte. -/
def responds : Instr → Bool
  | .ckRdHi _ => true
  | .ckRdLo _ => true
  | .capRd _ => true
  | .capLenLo _ => true
  | .capLenHi _ => true
  | .capIterLo _ => true
  | .capIterHi _ => true
  | .rdStatus _ => true
  | .rdErr _ => true
  | .rdCause _ => true
  | .rdErrCmdHi _ => true
  | .rdErrCmdLo _ => true
  | .rdDevId _ => true
  | .nop _ => false
  | .ckInit _ => false
  | .ckFeed _ => false
  | .encBegin _ => false
  | .encPush _ => false
  | .encSend _ => false
  | .encTelem _ => false
  | .encManual _ => false
  | .capStart _ => false
  | .poll _ => false
  | .cfgDevId _ => false
  | .reset _ => false
  | .wireTelemetryRequest => false
  | .wireManualControl => false

/-- `CAPACITY` (R6): bytes of `BUF` and iterations of a capture. -/
def capacity : Nat := 256

/-- `MAX_PAYLOAD` (R6). -/
def maxPayload : Nat := 255

/-- `PREAMBLE[0..11]` (R6). -/
def preamble : List Byte :=
  [0xAA#8, 0x55#8, 0xAA#8, 0x55#8, 0xAA#8, 0x55#8, 0xEB#8, 0x90#8, 0xEB#8, 0x90#8, 0xEB#8, 0x90#8]

/-- `TERMINATOR` (R6). -/
def terminator : Byte := 0x7F#8

/-- `CMD_TELEMETRY` (R6). -/
def cmdTelemetry : Byte := 0xA0#8

/-- `CMD_MANUAL` (R6). -/
def cmdManual : Byte := 0xAA#8

/-- The first byte of `TELEMETRY_CK` (R6). -/
def telemetryCkHi : Byte := 0xB1#8

/-- The second byte of `TELEMETRY_CK` (R6). -/
def telemetryCkLo : Byte := 0xA7#8

end Sys2Proof.Machine
end

