-- ==== Sys2Proof/Machine/Ops.lean ====
section
/-!
DEFINITION. The shared operations: the byte stores (`spec/20_memory.md` R70), the response port
(`spec/30_encoding.md` R92), taking a fault (`spec/60_exceptions.md` R224, R225), which has no return but reset (R228),
and reset itself (`spec/70_reset_and_hazards.md` R250, R251).
-/

namespace Sys2Proof.Machine

/-- The byte at an index; an unlisted index reads as its reset contents, `0x00` (R61). -/
def Memory.read : Memory → Nat → Byte
  | [], _ => 0x00#8
  | (x, c) :: rest, a => if x = a then c else Memory.read rest a

/-- Put a byte in front of a store whose indices are all larger, unless it is what an unlisted index reads as. -/
def Memory.consCell (a : Nat) (b : Byte) (m : Memory) : Memory := if b = 0x00#8 then m else (a, b) :: m

/-- The store with byte `b` at index `a`, in canonical form if it was. -/
def Memory.write : Memory → Nat → Byte → Memory
  | [], a, b => Memory.consCell a b []
  | (x, c) :: rest, a, b =>
    if a < x then Memory.consCell a b ((x, c) :: rest)
    else if a = x then Memory.consCell a b rest
    else (x, c) :: Memory.write rest a b

/-- Indices strictly rising from `lo` on, and no pair holding `0x00`. -/
def Memory.wfFrom : Nat → Memory → Bool
  | _, [] => true
  | lo, (x, c) :: rest => decide (lo ≤ x) && decide (c ≠ 0x00#8) && Memory.wfFrom (x + 1) rest

/-- The canonical form. -/
def Memory.wf (m : Memory) : Bool := Memory.wfFrom 0 m

/-- Every listed index is below `n`. -/
def Memory.below (n : Nat) (m : Memory) : Bool := m.all fun cell => decide (cell.1 < n)

/-- `respond(v)` (R9, R92). -/
def respond (v : Byte) (s : State) : Host.Outcome State Fault Refusal := .next { s with response := some v }

/-- The fault record of R224: `FIRSTERR` and `ERRCMD` keep the first fault, `ERR` gains the fault's bit, nothing else
changes. -/
def recordFault (f : FaultKind) (w : Word) (s : State) : State :=
  { s with
    firstErr := if s.err = 0x00#8 then faultCode f else s.firstErr
    errCmd := if s.err = 0x00#8 then w else s.errCmd
    err := s.err ||| errBit f
    raised := some f }

/-- `raise Fault(f)` by command `i` (R224): the record, and the response `0x00` when `i` is of the response class
(R225). The block goes on (R226). -/
def raise (i : Instr) (f : FaultKind) (s : State) : Host.Outcome State Fault Refusal :=
  if responds i then .next { recordFault f (commandWord i) s with response := some 0x00#8 }
  else .next (recordFault f (commandWord i) s)

/-- Executing a word with an unassigned opcode (R96, R220): `ILLEGAL_CMD`, no response (R92). -/
def illegalCommand (w : Word) (s : State) : Host.Outcome State Fault Refusal := .next (recordFault .illegalCmd w s)

/-- The `RESET` command's effect (R208, R251): every element of the block at its reset value (R61). The parameters, the
transmit history, the agenda and the port observations are not elements of the block and stay (log 8, log 14). -/
def resetBlock (s : State) : State :=
  { State.powerOn s.params with
    response := s.response, raised := s.raised, txHistory := s.txHistory, agenda := s.agenda }

/-- `RX_ARRIVE(b)` on the receive queue (R176): appended, or dropped when the queue is full. -/
def receiveByte (b : Byte) (s : State) : State :=
  { s with rxq := if s.rxq.length < s.params.rxDepth then s.rxq ++ [b] else s.rxq }

/-- The start of a capture (R171, R150). `BUF` is not cleared (R181) and `RXQ` is not flushed (R182). -/
def startCapture (s : State) : State := { s with iter := 0#9, widx := 0#9, capState := .check }

/-- The end of one iteration (R177, R178). -/
def endIteration (s : State) : State :=
  { s with
    iter := s.iter + 1#9
    capState := if (s.iter + 1#9).toNat = capacity then .done else .check }

end Sys2Proof.Machine
end

