-- ==== Sys2Proof/Machine/Checksum.lean ====
section
/-!
DEFINITION. The checksum function and the engine that runs it (`spec/40_checksum.md` R120, R121, R123, R124).
-/

namespace Sys2Proof.Machine

/-- The engine's registers. -/
structure Engine where
  ckState : CkState
  r1 : Byte
  r2 : Byte
  r3 : Byte
  r4 : Byte
  deriving DecidableEq, Repr

/-- The value of one register bit as a byte, for "plus 1 if the top bit was set" (R121). -/
def topBit (v : Byte) : Byte := v >>> 7

/-- `Shift()` (R121): each statement sees the writes of the ones before it, so the XOR tests `r1` as it was. -/
def Engine.shift (e : Engine) : Engine :=
  let r1 := (e.r1 <<< 1) ||| topBit e.r2
  let r2 := (e.r2 <<< 1) ||| topBit e.r3
  let r3 := e.r3 <<< 1
  if e.r1.msb then { e with r1 := r1 ^^^ 0x10#8, r2 := r2 ^^^ 0x41#8, r3 := r3, r4 := e.r1 }
  else { e with r1 := r1, r2 := r2, r3 := r3, r4 := e.r1 }

/-- `n` shifts. -/
def Engine.shifts : Nat → Engine → Engine
  | 0, e => e
  | n + 1, e => Engine.shifts n e.shift

/-- `CK_INIT` on the engine (R123). -/
def Engine.clear (e : Engine) : Engine := { e with ckState := .empty, r1 := 0x00#8, r2 := 0x00#8 }

/-- `CK_FEED b` on the engine (R124). -/
def Engine.feed (e : Engine) (b : Byte) : Engine :=
  match e.ckState with
  | .empty => { e with r1 := b, ckState := .one }
  | .one => { e with r2 := b, ckState := .run }
  | .run => Engine.shifts 8 { e with r3 := b }

/-- One `CK_FEED` per byte of the list, in order. -/
def Engine.feedAll (e : Engine) (bs : List Byte) : Engine := bs.foldl Engine.feed e

/-- The engine of a state. -/
def engineOf (s : State) : Engine :=
  { ckState := s.ckState, r1 := s.r1, r2 := s.r2, r3 := s.r3, r4 := s.r4 }

/-- A state with its engine replaced. -/
def setEngine (e : Engine) (s : State) : State :=
  { s with ckState := e.ckState, r1 := e.r1, r2 := e.r2, r3 := e.r3, r4 := e.r4 }

/-- The loop of R120 over the bytes after the seed, on `(r1, r2)`. -/
def checksumLoop : Byte → Byte → List Byte → Word
  | r1, r2, [] => r1 ++ r2
  | r1, r2, b :: rest =>
    let e := Engine.shifts 8 { ckState := .run, r1 := r1, r2 := r2, r3 := b, r4 := 0x00#8 }
    checksumLoop e.r1 e.r2 rest

/-- `Checksum(b)` (R120): the 16-bit code of at least two bytes. For fewer it has no value (R127). -/
def checksum : List Byte → Option Word
  | b0 :: b1 :: rest => some (checksumLoop b0 b1 rest)
  | [_] => none
  | [] => none

end Sys2Proof.Machine
end

