-- ==== Sys2Proof/Machine/Frame.lean ====
section
/-!
DEFINITION. The wire frame (`spec/30_encoding.md` R100, R103, R104), the checksum span and the frame byte
(`spec/41_encoder.md` R140, R141), and the two emission starts (R147).
-/

namespace Sys2Proof.Machine

/-- `Span(d, c, p)` (R141; `spec/90_conflicts.md` C1): the envelope and two zero bytes. -/
def span (d c : Byte) (p : List Byte) : List Byte :=
  [d, c, BitVec.ofNat 8 p.length] ++ p ++ [0x00#8, 0x00#8]

/-- The bytes of a frame in the order they are sent (R100). -/
def wireFrame (d c : Byte) (p : List Byte) (hi lo : Byte) : List Byte :=
  preamble ++ [d, c, BitVec.ofNat 8 p.length] ++ p ++ [hi, lo, terminator]

/-- The telemetry-request frame of device id `d` (R103). -/
def telemetryRequestFrame (d : Byte) : List Byte := wireFrame d cmdTelemetry [] telemetryCkHi telemetryCkLo

/-- The frame that carries the checksum of its own span (R141). -/
def computedFrame (d c : Byte) (p : List Byte) : List Byte :=
  match checksum (span d c p) with
  | some w => wireFrame d c p (wordHi w) (wordLo w)
  | none => []

/-- The manual-control frame of device id `d` with payload byte `v` (R104). -/
def manualControlFrame (d v : Byte) : List Byte := computedFrame d cmdManual [v]

/-- `PBUF[0..PLEN-1]`. -/
def payload (s : State) : List Byte := (List.range s.plen.toNat).map (Memory.read s.pbuf)

/-- `FrameByte(k)` (R140), for `k ≤ PLEN + 17`; it has no value past the terminator. -/
def frameByte (s : State) (k : Nat) : Option Byte :=
  if k < 12 then preamble[k]?
  else if k = 12 then some s.eDev
  else if k = 13 then some s.eCmd
  else if k = 14 then some s.plen
  else if k < 15 + s.plen.toNat then some (Memory.read s.pbuf (k - 15))
  else if k = 15 + s.plen.toNat then some s.eCkHi
  else if k = 16 + s.plen.toNat then some s.eCkLo
  else if k = 17 + s.plen.toNat then some terminator
  else none

/-- The end of `StartComputed` and `StartFixed` (R147): the latches, and the emission begins. -/
def startEmission (hi lo : Byte) (s : State) : State :=
  { s with eDev := s.devId, eCkHi := hi, eCkLo := lo, ePos := 0#9, encState := .emit }

/-- `StartFixed(hi, lo)` (R147): the engine is not touched. -/
def startFixed (hi lo : Byte) (s : State) : State := startEmission hi lo s

/-- The engine after `CK_INIT` and one `CK_FEED` per byte of the span of the frame in hand (R147). -/
def spanEngine (s : State) : Engine := (engineOf s).clear.feedAll (span s.devId s.eCmd (payload s))

/-- `StartComputed()` (R147). -/
def startComputed (s : State) : State :=
  startEmission (spanEngine s).r1 (spanEngine s).r2 (setEngine (spanEngine s) s)

/-- The telemetry-request frame put in hand and its emission started with the fixed checksum bytes (R145, R172). -/
def startTelemetry (s : State) : State :=
  startFixed telemetryCkHi telemetryCkLo { s with eCmd := cmdTelemetry, plen := 0x00#8 }

/-- The manual-control frame put in hand and its emission started (R146). -/
def startManual (v : Byte) (s : State) : State :=
  startComputed { s with eCmd := cmdManual, pbuf := Memory.write s.pbuf 0 v, plen := 0x01#8 }

/-- The terminator was taken (R150): the encoder is idle, and the capture of a `POLL` starts in the same step. -/
def endEmission (s : State) : State :=
  if s.pollPend then startCapture { s with encState := .idle, pollPend := false }
  else { s with encState := .idle }

end Sys2Proof.Machine
end

