-- ==== Sys2Proof/Machine/Cap.lean ====
section
/-!
DEFINITION. The meanings of the serial frame capture's commands (`spec/42_capture.md` R171 to R175).
-/

namespace Sys2Proof.Machine

/-- `CAP_START` (R171). -/
def execCapStart (v : Byte) (s : State) : Host.Outcome State Fault Refusal :=
  if s.encState = .emit ∨ capActive s then raise (.capStart v) .busy s
  else .next (startCapture s)

/-- `POLL` (R172): the telemetry-request frame, and a capture pending at its end. -/
def execPoll (v : Byte) (s : State) : Host.Outcome State Fault Refusal :=
  if s.encState ≠ .idle ∨ capActive s then raise (.poll v) .busy s
  else .next { startTelemetry s with pollPend := true }

/-- `CAP_RD i` (R173): every index is in range (R71). -/
def execCapRd (i : Byte) (s : State) : Host.Outcome State Fault Refusal :=
  if capActive s ∨ s.pollPend then raise (.capRd i) .busy s
  else respond (Memory.read s.buf (indexOperand i)) s

/-- `CAP_LENLO` (R174). -/
def execCapLenLo (_v : Byte) (s : State) : Host.Outcome State Fault Refusal := respond (counterLo s.widx) s

/-- `CAP_LENHI` (R174). -/
def execCapLenHi (_v : Byte) (s : State) : Host.Outcome State Fault Refusal := respond (counterHi s.widx) s

/-- `CAP_ITERLO` (R175). -/
def execCapIterLo (_v : Byte) (s : State) : Host.Outcome State Fault Refusal := respond (counterLo s.iter) s

/-- `CAP_ITERHI` (R175). -/
def execCapIterHi (_v : Byte) (s : State) : Host.Outcome State Fault Refusal := respond (counterHi s.iter) s

end Sys2Proof.Machine
end

