-- ==== Sys2Proof/Machine/Cke.lean ====
section
/-!
DEFINITION. The meanings of the checksum engine's commands (`spec/40_checksum.md` R123 to R126).
-/

namespace Sys2Proof.Machine

/-- `CK_INIT` (R123): clear the engine; legal in every state. -/
def execCkInit (_v : Byte) (s : State) : Host.Outcome State Fault Refusal :=
  .next (setEngine (engineOf s).clear s)

/-- `CK_FEED b` (R124): absorb one byte; legal in every state. -/
def execCkFeed (b : Byte) (s : State) : Host.Outcome State Fault Refusal :=
  .next (setEngine ((engineOf s).feed b) s)

/-- `CK_RDHI` (R125): `R1`, or `CK_SHORT` when fewer than two bytes were fed. -/
def execCkRdHi (v : Byte) (s : State) : Host.Outcome State Fault Refusal :=
  if s.ckState ≠ .run then raise (.ckRdHi v) .ckShort s else respond s.r1 s

/-- `CK_RDLO` (R126): `R2`, or `CK_SHORT` when fewer than two bytes were fed. -/
def execCkRdLo (v : Byte) (s : State) : Host.Outcome State Fault Refusal :=
  if s.ckState ≠ .run then raise (.ckRdLo v) .ckShort s else respond s.r2 s

end Sys2Proof.Machine
end

