-- ==== Sys2Proof/Machine/Control.lean ====
section
/-!
DEFINITION. The meanings of the control and status commands (`spec/43_control.md` R200 to R208). None of them can fault.
-/

namespace Sys2Proof.Machine

/-- `NOP` (R200). -/
def execNop (_v : Byte) (s : State) : Host.Outcome State Fault Refusal := .next s

/-- `RD_STATUS` (R201). -/
def execRdStatus (_v : Byte) (s : State) : Host.Outcome State Fault Refusal := respond (statusView s) s

/-- `RD_ERR` (R202). -/
def execRdErr (_v : Byte) (s : State) : Host.Outcome State Fault Refusal := respond s.err s

/-- `RD_CAUSE` (R203). -/
def execRdCause (_v : Byte) (s : State) : Host.Outcome State Fault Refusal := respond s.firstErr s

/-- `RD_ERRCMDHI` (R204). -/
def execRdErrCmdHi (_v : Byte) (s : State) : Host.Outcome State Fault Refusal := respond (wordHi s.errCmd) s

/-- `RD_ERRCMDLO` (R205). -/
def execRdErrCmdLo (_v : Byte) (s : State) : Host.Outcome State Fault Refusal := respond (wordLo s.errCmd) s

/-- `RD_DEVID` (R206). -/
def execRdDevId (_v : Byte) (s : State) : Host.Outcome State Fault Refusal := respond s.devId s

/-- `CFG_DEVID d` (R207): a frame being sent keeps its `E_DEV`. -/
def execCfgDevId (d : Byte) (s : State) : Host.Outcome State Fault Refusal := .next { s with devId := d }

/-- `RESET` (R208, R251). -/
def execReset (_v : Byte) (s : State) : Host.Outcome State Fault Refusal := .next (resetBlock s)

end Sys2Proof.Machine
end

