-- ==== Sys2Proof/Machine/Enc.lean ====
section
/-!
DEFINITION. The meanings of the frame encoder's commands (`spec/41_encoder.md` R142 to R146), each with its faults in
the order its rule tests them (`spec/60_exceptions.md` R221, R222).
-/

namespace Sys2Proof.Machine

/-- `ENC_BEGIN c` (R142). -/
def execEncBegin (c : Byte) (s : State) : Host.Outcome State Fault Refusal :=
  if s.encState = .emit then raise (.encBegin c) .busy s
  else .next { s with eCmd := c, plen := 0x00#8, encState := .assemble }

/-- `ENC_PUSH b` (R143). -/
def execEncPush (b : Byte) (s : State) : Host.Outcome State Fault Refusal :=
  if s.encState = .emit then raise (.encPush b) .busy s
  else if s.encState = .idle then raise (.encPush b) .encSeq s
  else if s.plen = 0xFF#8 then raise (.encPush b) .encOvf s
  else .next { s with pbuf := Memory.write s.pbuf s.plen.toNat b, plen := s.plen + 1#8 }

/-- `ENC_SEND` (R144). -/
def execEncSend (v : Byte) (s : State) : Host.Outcome State Fault Refusal :=
  if s.encState = .emit ∨ capActive s then raise (.encSend v) .busy s
  else if s.encState = .idle then raise (.encSend v) .encSeq s
  else .next (startComputed s)

/-- `ENC_TELEM` (R145). -/
def execEncTelem (v : Byte) (s : State) : Host.Outcome State Fault Refusal :=
  if s.encState ≠ .idle ∨ capActive s then raise (.encTelem v) .busy s
  else .next (startTelemetry s)

/-- `ENC_MANUAL v` (R146). -/
def execEncManual (v : Byte) (s : State) : Host.Outcome State Fault Refusal :=
  if ¬ selectorLegal v then raise (.encManual v) .illegalOperand s
  else if s.encState ≠ .idle ∨ capActive s then raise (.encManual v) .busy s
  else .next (startManual v s)

end Sys2Proof.Machine
end

