-- ==== Sys2Proof/Machine/Wire.lean ====
section
/-!
DEFINITION. The meanings of the two device-link rows of the opcode table. A command code of R102 is no host command: the
block sends it as byte 13 of a frame (`ENC_TELEM`, `POLL`, `ENC_MANUAL`, `ENC_BEGIN`). Where such a code reaches the
block, it comes over the link's receive side and is a byte like any other: "The block never interprets received codes"
(`spec/30_encoding.md` R102), so it joins the receive queue (`spec/42_capture.md` R176, R183;
`spec/70_reset_and_hazards.md` R260(b)). What the far device does with it is not the block's (log 6).
-/

namespace Sys2Proof.Machine

/-- The telemetry-request code `0xA0` arrives over the link (R102, R103, R176). -/
def execWireTelemetryRequest (s : State) : Host.Outcome State Fault Refusal := .next (receiveByte cmdTelemetry s)

/-- The manual-control code `0xAA` arrives over the link (R102, R104, R176). -/
def execWireManualControl (s : State) : Host.Outcome State Fault Refusal := .next (receiveByte cmdManual s)

end Sys2Proof.Machine
end

