-- ==== Sys2Proof/Machine/Dispatch.lean ====
section
/-!
DEFINITION. The meaning of every instruction: one arm per constructor of `Instr`.
-/

namespace Sys2Proof.Machine

def exec (i : Instr) (s : State) : Host.Outcome State Fault Refusal :=
  match i with
  | .nop v => Sys2Proof.Machine.execNop v s
  | .ckInit v => Sys2Proof.Machine.execCkInit v s
  | .ckFeed b => Sys2Proof.Machine.execCkFeed b s
  | .ckRdHi v => Sys2Proof.Machine.execCkRdHi v s
  | .ckRdLo v => Sys2Proof.Machine.execCkRdLo v s
  | .encBegin c => Sys2Proof.Machine.execEncBegin c s
  | .encPush b => Sys2Proof.Machine.execEncPush b s
  | .encSend v => Sys2Proof.Machine.execEncSend v s
  | .encTelem v => Sys2Proof.Machine.execEncTelem v s
  | .encManual v => Sys2Proof.Machine.execEncManual v s
  | .capStart v => Sys2Proof.Machine.execCapStart v s
  | .poll v => Sys2Proof.Machine.execPoll v s
  | .capRd k => Sys2Proof.Machine.execCapRd k s
  | .capLenLo v => Sys2Proof.Machine.execCapLenLo v s
  | .capLenHi v => Sys2Proof.Machine.execCapLenHi v s
  | .capIterLo v => Sys2Proof.Machine.execCapIterLo v s
  | .capIterHi v => Sys2Proof.Machine.execCapIterHi v s
  | .rdStatus v => Sys2Proof.Machine.execRdStatus v s
  | .rdErr v => Sys2Proof.Machine.execRdErr v s
  | .rdCause v => Sys2Proof.Machine.execRdCause v s
  | .rdErrCmdHi v => Sys2Proof.Machine.execRdErrCmdHi v s
  | .rdErrCmdLo v => Sys2Proof.Machine.execRdErrCmdLo v s
  | .rdDevId v => Sys2Proof.Machine.execRdDevId v s
  | .cfgDevId d => Sys2Proof.Machine.execCfgDevId d s
  | .reset v => Sys2Proof.Machine.execReset v s
  | .wireTelemetryRequest => Sys2Proof.Machine.execWireTelemetryRequest s
  | .wireManualControl => Sys2Proof.Machine.execWireManualControl s

end Sys2Proof.Machine
end

