-- ==== Sys2Proof/Machine/Events.lean ====
section
/-!
DEFINITION. The four event steps (`spec/30_encoding.md` R105): `TX_ACCEPT` (`spec/41_encoder.md` R150), `RX_ARRIVE`,
`CAP_CHECK` and `TIMER_EXPIRE` (`spec/42_capture.md` R176 to R178); and which input the machine takes next.
An event whose agent's turn comes while the event is not enabled is no step of the block: the turn passes (log 3).
-/

namespace Sys2Proof.Machine

/-- `emit(v)` (R9, R150): the link takes byte `v`, and `E_POS` moves on. -/
def emitByte (v : Byte) (s : State) : State :=
  { s with txHistory := s.txHistory ++ [v], ePos := s.ePos + 1#9 }

/-- `TX_ACCEPT` (R150). -/
def txAccept (s : State) : Host.Outcome State Fault Refusal :=
  if s.encState = .emit then
    match frameByte s s.ePos.toNat with
    | some v =>
      if (s.ePos + 1#9).toNat = s.plen.toNat + 18 then .next (endEmission (emitByte v s)) else .next (emitByte v s)
    | none => .fault .frameIndexOutOfRange
  else .next s

/-- `RX_ARRIVE(b)` (R176): always enabled. -/
def rxArrive (b : Byte) (s : State) : Host.Outcome State Fault Refusal := .next (receiveByte b s)

/-- A present check (R177): the head of `RXQ` is stored at `WIDX` and the inter-byte delay starts. -/
def storeByte (b : Byte) (rest : List Byte) (s : State) : State :=
  { s with rxq := rest, buf := Memory.write s.buf s.widx.toNat b, widx := s.widx + 1#9, capState := .wait }

/-- `CAP_CHECK` (R177). -/
def capCheck (s : State) : Host.Outcome State Fault Refusal :=
  if s.capState = .check then
    match s.rxq with
    | b :: rest => if s.widx.toNat < capacity then .next (storeByte b rest s) else .fault .bufIndexOutOfRange
    | [] => .next (endIteration s)
  else .next s

/-- `TIMER_EXPIRE` (R178). -/
def timerExpire (s : State) : Host.Outcome State Fault Refusal :=
  if s.capState = .wait then .next (endIteration s) else .next s

/-- The weakly fair event that is enabled (R262). At most one is in every state that meets R60(g); where a state breaks
it, `TX_ACCEPT` comes first (DESIGN CHOICE, log 2). -/
def enabledEvent (s : State) : Option Input :=
  match s.encState, s.capState with
  | .emit, _ => some .txAccept
  | _, .check => some .capCheck
  | _, .wait => some .timerExpire
  | _, _ => none

/-- A step begins with the response port silent and no fault raised (R92; log 7). -/
def openPorts (s : State) : State := { s with response := none, raised := none }

/-- The next input, and the state its step starts from: the head of the agenda, or, when the agenda is empty, the
enabled fair event (R262; log 2). `none` when there is neither: the block waits (R252). -/
def takeInput (s : State) : Option (Input × State) :=
  match s.agenda with
  | x :: rest => some (x, openPorts { s with agenda := rest })
  | [] =>
    match enabledEvent s with
    | some x => some (x, openPorts s)
    | none => none

/-- The code an input brings, if it brings one: a command word, or a byte on the link. -/
def inputCode : Input → Option Code
  | .command w => some (.command w)
  | .rxArrive b => some (.link b)
  | .txAccept => none
  | .capCheck => none
  | .timerExpire => none

/-- The input that brings an instruction of `nbits` bits: the host's word, or a code byte on the link. -/
def inputOfTableWord (nbits w : Nat) : Input :=
  if nbits ≤ 8 then .rxArrive (BitVec.ofNat 8 w) else .command (BitVec.ofNat 16 w)

/-- An input that brings no instruction of the opcode table: an unassigned opcode (R96), a link byte that is no fixed
code (R176), or an event without encoding (R105). -/
def runPlain (x : Input) (s : State) : Host.Outcome State Fault Refusal :=
  match x with
  | .command w => illegalCommand w s
  | .rxArrive b => rxArrive b s
  | .txAccept => txAccept s
  | .capCheck => capCheck s
  | .timerExpire => timerExpire s

/-- The instruction an input brings, if it brings one. -/
def inputInstr (x : Input) : Option Instr :=
  match inputCode x with
  | some c =>
    match decode c with
    | .ok i => some i
    | .error _ => none
  | none => none

end Sys2Proof.Machine
end

