-- ==== Sys2Proof/Machine/Step.lean ====
section
/-!
DEFINITION. One step of the machine (`spec/00_scope.md` R10): one host command, executed whole, or one event.
-/

namespace Sys2Proof.Machine

/-- What one input does: `exec` of the instruction it brings, or its plain effect where it brings none (R96, R105). -/
def runInput (x : Input) (s : State) : Host.Outcome State Fault Refusal :=
  match inputInstr x with
  | some i => exec i s
  | none => runPlain x s

/-- One step (R10, R76): the next input of the agenda, else the enabled fair event (R262), else the block waits for the
host (R252). -/
def step (s : State) : Host.Outcome State Fault Refusal :=
  match takeInput s with
  | some (x, s') => runInput x s'
  | none => .next s

/-- `s` with the instruction whose bits are `w` as the next step's input: a command word the host offers, or a code byte
the link delivers (log 15). -/
def State.withFetchWord (s : State) (nbits w : Nat) : State :=
  { s with agenda := inputOfTableWord nbits w :: s.agenda }

end Sys2Proof.Machine
end

