-- ==== Sys2Proof/Machine/Assembler.lean ====
section
/-!
DEFINITION. The assembler notation and the pseudo-commands of `spec/30_encoding.md` R110 to R117: a line of text becomes
the inputs it stands for. No step reads this file: it says which command words a host program is.
-/

namespace Sys2Proof.Machine

/-- Why the assembler refuses a line. -/
inductive AsmError where
  /-- The first token is no mnemonic, pseudo-command or event. -/
  | unknownMnemonic
  /-- An operand is no number, or is above 255 (R111). -/
  | badOperand
  /-- More operands than the line takes, or a missing one (DESIGN CHOICE, log 20). -/
  | wrongOperandCount
  /-- `CHECKSUM` of fewer than two bytes (R112). -/
  | tooFewBytes
  /-- `FRAME` with a payload above 255 bytes (R113). -/
  | tooManyBytes
  deriving DecidableEq, Repr

/-- The pseudo-commands. -/
inductive Pseudo where
  /-- `CHECKSUM b0, b1, ...` (R112). -/
  | checksum (bs : List Byte)
  /-- `FRAME c, p0, ...` (R113). -/
  | frame (c : Byte) (ps : List Byte)
  /-- `SENDCOMMAND v` (R114). -/
  | sendCommand (v : Byte)
  /-- `READBUF` (R115). -/
  | readBuf
  /-- The host text token `LON` (R117). -/
  | lon
  /-- The host text token `LOFF` (R117). -/
  | loff
  deriving DecidableEq, Repr

/-- The commands a pseudo-command stands for. -/
def expand : Pseudo → Except AsmError (List Instr)
  | .checksum bs =>
    if bs.length < 2 then .error .tooFewBytes
    else .ok (.ckInit 0x00#8 :: bs.map .ckFeed ++ [.ckRdHi 0x00#8, .ckRdLo 0x00#8])
  | .frame c ps =>
    if 255 < ps.length then .error .tooManyBytes
    else .ok (.encBegin c :: ps.map .encPush ++ [.encSend 0x00#8])
  | .sendCommand v => .ok [.encManual v]
  | .readBuf => .ok ((List.range 256).map fun k => .capRd (BitVec.ofNat 8 k))
  | .lon => .ok [.encManual 0x01#8]
  | .loff => .ok [.encManual 0x00#8]

/-- Commands as the inputs with which a host issues them. -/
def commandInputs (is : List Instr) : List Input := is.map fun i => .command (commandWord i)

/-- The mnemonics of R95 with the command each makes of its operand. -/
def mnemonicTable : List (List Char × (Byte → Instr)) :=
  [(['N', 'O', 'P'], .nop),
   (['C', 'K', '_', 'I', 'N', 'I', 'T'], .ckInit),
   (['C', 'K', '_', 'F', 'E', 'E', 'D'], .ckFeed),
   (['C', 'K', '_', 'R', 'D', 'H', 'I'], .ckRdHi),
   (['C', 'K', '_', 'R', 'D', 'L', 'O'], .ckRdLo),
   (['E', 'N', 'C', '_', 'B', 'E', 'G', 'I', 'N'], .encBegin),
   (['E', 'N', 'C', '_', 'P', 'U', 'S', 'H'], .encPush),
   (['E', 'N', 'C', '_', 'S', 'E', 'N', 'D'], .encSend),
   (['E', 'N', 'C', '_', 'T', 'E', 'L', 'E', 'M'], .encTelem),
   (['E', 'N', 'C', '_', 'M', 'A', 'N', 'U', 'A', 'L'], .encManual),
   (['C', 'A', 'P', '_', 'S', 'T', 'A', 'R', 'T'], .capStart),
   (['P', 'O', 'L', 'L'], .poll),
   (['C', 'A', 'P', '_', 'R', 'D'], .capRd)] ++
  [(['C', 'A', 'P', '_', 'L', 'E', 'N', 'L', 'O'], .capLenLo),
   (['C', 'A', 'P', '_', 'L', 'E', 'N', 'H', 'I'], .capLenHi),
   (['C', 'A', 'P', '_', 'I', 'T', 'E', 'R', 'L', 'O'], .capIterLo),
   (['C', 'A', 'P', '_', 'I', 'T', 'E', 'R', 'H', 'I'], .capIterHi),
   (['R', 'D', '_', 'S', 'T', 'A', 'T', 'U', 'S'], .rdStatus),
   (['R', 'D', '_', 'E', 'R', 'R'], .rdErr),
   (['R', 'D', '_', 'C', 'A', 'U', 'S', 'E'], .rdCause),
   (['R', 'D', '_', 'E', 'R', 'R', 'C', 'M', 'D', 'H', 'I'], .rdErrCmdHi),
   (['R', 'D', '_', 'E', 'R', 'R', 'C', 'M', 'D', 'L', 'O'], .rdErrCmdLo),
   (['R', 'D', '_', 'D', 'E', 'V', 'I', 'D'], .rdDevId),
   (['C', 'F', 'G', '_', 'D', 'E', 'V', 'I', 'D'], .cfgDevId),
   (['R', 'E', 'S', 'E', 'T'], .reset)]

/-- The value of a digit, decimal or hexadecimal in either case. -/
def digitValue (c : Char) : Option Nat :=
  if 48 ≤ c.toNat ∧ c.toNat ≤ 57 then some (c.toNat - 48)
  else if 65 ≤ c.toNat ∧ c.toNat ≤ 70 then some (c.toNat - 55)
  else if 97 ≤ c.toNat ∧ c.toNat ≤ 102 then some (c.toNat - 87)
  else none

/-- Digits in a base, after the value `acc` of the ones before them. -/
def digitsValue (base : Nat) : Nat → List Char → Option Nat
  | acc, [] => some acc
  | acc, c :: rest =>
    match digitValue c with
    | some d => if d < base then digitsValue base (acc * base + d) rest else none
    | none => none

/-- A number: `0x` and hexadecimal digits, or decimal digits (R111). -/
def numberValue : List Char → Option Nat
  | [] => none
  | '0' :: 'x' :: d :: ds => digitsValue 16 0 (d :: ds)
  | d :: ds => digitsValue 10 0 (d :: ds)

/-- An operand: its value must be 0 to 255, and is not truncated (R111). -/
def operandValue (t : List Char) : Except AsmError Byte :=
  match numberValue t with
  | some n => if n < 256 then .ok (BitVec.ofNat 8 n) else .error .badOperand
  | none => .error .badOperand

/-- Every operand of a line. -/
def operandValues : List (List Char) → Except AsmError (List Byte)
  | [] => .ok []
  | t :: ts =>
    match operandValue t, operandValues ts with
    | .ok v, .ok vs => .ok (v :: vs)
    | .error e, _ => .error e
    | _, .error e => .error e

/-- The character between two tokens: a space, a tab or a comma (DESIGN CHOICE, log 16). -/
def isSeparator (c : Char) : Bool := c == ' ' || c == '\t' || c == ','

/-- The tokens of a line; `cur` is the token being read, reversed. -/
def tokens : List Char → List Char → List (List Char)
  | cur, [] => if cur.isEmpty then [] else [cur.reverse]
  | cur, c :: rest =>
    if isSeparator c then (if cur.isEmpty then tokens [] rest else cur.reverse :: tokens [] rest)
    else tokens (c :: cur) rest

/-- A line up to its comment, which begins with `;` (R110). -/
def stripComment (l : List Char) : List Char := l.takeWhile fun c => c != ';'

/-- The command of a mnemonic, with the operand `0x00` when none is written (R110). A second operand is refused (DESIGN
CHOICE, log 20). -/
def commandLine (mk : Byte → Instr) : List Byte → Except AsmError (List Input)
  | [] => .ok (commandInputs [mk 0x00#8])
  | [v] => .ok (commandInputs [mk v])
  | _ :: _ :: _ => .error .wrongOperandCount

/-- The inputs of a pseudo-command. -/
def pseudoLine (p : Pseudo) : Except AsmError (List Input) :=
  match expand p with
  | .ok is => .ok (commandInputs is)
  | .error e => .error e

/-- The lines that take no operand and are no command: three pseudo-commands and three events (R110, R115, R117).
An operand on one of them is refused (DESIGN CHOICE, log 20). -/
def bareLine (head : List Char) : Option (Except AsmError (List Input)) :=
  if head = ['R', 'E', 'A', 'D', 'B', 'U', 'F'] then some (pseudoLine .readBuf)
  else if head = ['L', 'O', 'N'] then some (pseudoLine .lon)
  else if head = ['L', 'O', 'F', 'F'] then some (pseudoLine .loff)
  else if head = ['@', 'T', 'X', '_', 'A', 'C', 'C', 'E', 'P', 'T'] then some (.ok [.txAccept])
  else if head = ['@', 'C', 'A', 'P', '_', 'C', 'H', 'E', 'C', 'K'] then some (.ok [.capCheck])
  else if head = ['@', 'T', 'I', 'M', 'E', 'R', '_', 'E', 'X', 'P', 'I', 'R', 'E'] then some (.ok [.timerExpire])
  else none

/-- The lines that take operands and are no command (R110, R112 to R114). `SENDCOMMAND` and `@RX_ARRIVE` with no operand,
and `FRAME` with no command code, are refused: R110's "Writing no operand means `0x00`" is read as a rule of the commands
alone, which the spec leaves open (DESIGN CHOICE, log 20). -/
def operandLine (head : List Char) (vs : List Byte) : Except AsmError (List Input) :=
  if head = ['C', 'H', 'E', 'C', 'K', 'S', 'U', 'M'] then pseudoLine (.checksum vs)
  else if head = ['F', 'R', 'A', 'M', 'E'] then
    match vs with
    | c :: ps => pseudoLine (.frame c ps)
    | [] => .error .wrongOperandCount
  else if head = ['S', 'E', 'N', 'D', 'C', 'O', 'M', 'M', 'A', 'N', 'D'] then
    match vs with
    | [v] => pseudoLine (.sendCommand v)
    | _ => .error .wrongOperandCount
  else if head = ['@', 'R', 'X', '_', 'A', 'R', 'R', 'I', 'V', 'E'] then
    match vs with
    | [b] => .ok [.rxArrive b]
    | _ => .error .wrongOperandCount
  else .error .unknownMnemonic

/-- The inputs a line's first token and its operand values stand for. -/
def lineInputs (head : List Char) (vs : List Byte) : Except AsmError (List Input) :=
  match mnemonicTable.find? fun row => row.1 == head with
  | some row => commandLine row.2 vs
  | none =>
    match bareLine head with
    | some r => if vs.isEmpty then r else .error .wrongOperandCount
    | none => operandLine head vs

/-- One line of a program or test script (R110): its inputs, none for an empty or comment line. -/
def assembleLine (l : List Char) : Except AsmError (List Input) :=
  match tokens [] (stripComment l) with
  | [] => .ok []
  | head :: operands =>
    match operandValues operands with
    | .ok vs => lineInputs head vs
    | .error e => .error e

/-- A program, one command a line (R110): the agenda it makes. -/
def assemble : List (List Char) → Except AsmError (List Input)
  | [] => .ok []
  | l :: ls =>
    match assembleLine l, assemble ls with
    | .ok xs, .ok ys => .ok (xs ++ ys)
    | .error e, _ => .error e
    | _, .error e => .error e

/-- The host text tokens at the block's boundary (R117): any token but the two issues no command. -/
def hostToken (t : List Char) : List Instr :=
  if t = ['L', 'O', 'N'] then [.encManual 0x01#8]
  else if t = ['L', 'O', 'F', 'F'] then [.encManual 0x00#8]
  else []

end Sys2Proof.Machine
end

