-- ==== Sys2Proof/Safety.lean ====
section
/-!
DEFINITION. The terms claims use: the invariant of `spec/10_state.md` R60 and R45, the fault table of
`spec/60_exceptions.md` R221, runs, and the inputs that write the engine (`spec/40_checksum.md` R122, R133).
-/

namespace Sys2Proof.Machine

/-- The capture's part of R60: (a) to (e). In `WAIT` the byte of the iteration under way is already stored while the
iteration is not yet counted, so there `WIDX` may be one more than `ITER` (DEDUCED from R177; log 9). -/
abbrev CaptureInv (s : State) : Prop :=
  s.iter.toNat ≤ capacity ∧
  (s.capState ≠ .wait → s.widx.toNat ≤ s.iter.toNat) ∧
  (s.capState = .wait → 1 ≤ s.widx.toNat ∧ s.widx.toNat ≤ s.iter.toNat + 1) ∧
  (capActive s = true → s.iter.toNat < capacity) ∧
  (s.capState = .done → s.iter.toNat = capacity) ∧
  (s.capState = .cIdle → s.iter.toNat = 0 ∧ s.widx.toNat = 0)

/-- The encoder's part: R45, and R60(g). In `ASSEMBLE` the position of the last frame stays while `PLEN` counts the new
payload, so there `E_POS` is only at most 273 (DEDUCED from R142, R143, R150; log 10). -/
abbrev EncoderInv (s : State) : Prop :=
  (s.encState = .emit → s.ePos.toNat ≤ s.plen.toNat + 17) ∧
  (s.encState = .idle → s.ePos.toNat ≤ s.plen.toNat + 18) ∧
  s.ePos.toNat ≤ 273 ∧
  (s.pollPend = true → s.encState = .emit) ∧
  ¬ (s.encState = .emit ∧ capActive s = true)

/-- The fault registers: R60(h), the reserved bits of `ERR` (R52, R56), and `ERRCMD` while there was no fault (R54). -/
abbrev FaultInv (s : State) : Prop :=
  (s.err = 0x00#8 ↔ s.firstErr = 0x00#8) ∧
  s.err.toNat < 64 ∧
  s.firstErr.toNat ≤ 6 ∧
  (s.err = 0x00#8 → s.errCmd = 0x0000#16)

/-- The byte stores: canonical form, the sizes of R70, and R60(f). -/
abbrev StoreInv (s : State) : Prop :=
  Memory.wf s.buf = true ∧ Memory.below 256 s.buf = true ∧
  Memory.wf s.pbuf = true ∧ Memory.below 255 s.pbuf = true ∧
  1 ≤ s.params.rxDepth ∧ s.rxq.length ≤ s.params.rxDepth

/-- The invariant of the block (R45, R60). -/
abbrev BlockInv (s : State) : Prop := CaptureInv s ∧ EncoderInv s ∧ FaultInv s ∧ StoreInv s

/-- R45 as the spec words it. It does not hold in `ASSEMBLE` (log 10). -/
abbrev R45AsWorded (s : State) : Prop :=
  (s.encState = .emit → s.ePos.toNat ≤ s.plen.toNat + 17) ∧
  (s.encState ≠ .emit → s.ePos.toNat ≤ s.plen.toNat + 18 ∧ s.plen.toNat + 18 ≤ 273) ∧
  (s.pollPend = true → s.encState = .emit)

/-- R60(a) to (h) as the spec words them; (i) is R45. Clause (a) does not hold in `WAIT` (log 9). -/
abbrev R60AsWorded (s : State) : Prop :=
  (s.widx.toNat ≤ s.iter.toNat ∧ s.iter.toNat ≤ capacity) ∧
  (capActive s = true → s.iter.toNat < capacity) ∧
  (s.capState = .done → s.iter.toNat = capacity) ∧
  (s.capState = .cIdle → s.iter.toNat = 0 ∧ s.widx.toNat = 0) ∧
  (s.capState = .wait → 1 ≤ s.widx.toNat) ∧
  s.rxq.length ≤ s.params.rxDepth ∧
  ¬ (s.encState = .emit ∧ capActive s = true) ∧
  (s.err = 0x00#8 ↔ s.firstErr = 0x00#8)

/-- "The program runs without fault" (R226). -/
abbrev noFault (s : State) : Prop := s.err = 0x00#8

/-- The first condition of the command's row in R221 that holds, in its test order. -/
def faultOf (s : State) : Instr → Option FaultKind
  | .ckRdHi _ => if s.ckState = .run then none else some .ckShort
  | .ckRdLo _ => if s.ckState = .run then none else some .ckShort
  | .encBegin _ => if s.encState = .emit then some .busy else none
  | .encPush _ =>
    match s.encState with
    | .emit => some .busy
    | .idle => some .encSeq
    | .assemble => if s.plen.toNat = 255 then some .encOvf else none
  | .encSend _ =>
    match s.encState, capActive s with
    | .emit, _ => some .busy
    | _, true => some .busy
    | .idle, false => some .encSeq
    | .assemble, false => none
  | .encTelem _ => if s.encState = .idle ∧ capActive s = false then none else some .busy
  | .poll _ => if s.encState = .idle ∧ capActive s = false then none else some .busy
  | .encManual v =>
    if 1 < v.toNat then some .illegalOperand
    else if s.encState = .idle ∧ capActive s = false then none else some .busy
  | .capStart _ => if s.encState = .emit ∨ capActive s = true then some .busy else none
  | .capRd _ => if capActive s = true ∨ s.pollPend = true then some .busy else none
  | .nop _ => none
  | .ckInit _ => none
  | .ckFeed _ => none
  | .capLenLo _ => none
  | .capLenHi _ => none
  | .capIterLo _ => none
  | .capIterHi _ => none
  | .rdStatus _ => none
  | .rdErr _ => none
  | .rdCause _ => none
  | .rdErrCmdHi _ => none
  | .rdErrCmdLo _ => none
  | .rdDevId _ => none
  | .cfgDevId _ => none
  | .reset _ => none
  | .wireTelemetryRequest => none
  | .wireManualControl => none

/-- An unassigned opcode, by the ranges of R96. -/
def unassigned (op : Byte) : Bool :=
  decide (0x05 ≤ op.toNat ∧ op.toNat ≤ 0x0F) || decide (0x15 ≤ op.toNat ∧ op.toNat ≤ 0x1F) ||
  decide (0x27 ≤ op.toNat ∧ op.toNat ≤ 0x2F) || decide (0x37 ≤ op.toNat ∧ op.toNat ≤ 0x3E) ||
  decide (0x40 ≤ op.toNat ∧ op.toNat ≤ 0xFF)

/-- The input is the `RESET` command (R208). -/
def isReset (x : Input) : Bool :=
  match inputInstr x with
  | some (.reset _) => true
  | _ => false

/-- The input is a command other than `CK_FEED` that writes the engine (R122). -/
def clearsEngine (x : Input) : Bool :=
  match inputInstr x with
  | some (.ckInit _) => true
  | some (.encSend _) => true
  | some (.encManual _) => true
  | some (.reset _) => true
  | _ => false

/-- The byte an input feeds to the engine: the operand of `CK_FEED`. -/
def fedByte (x : Input) : Option Byte :=
  match inputInstr x with
  | some (.ckFeed b) => some b
  | _ => none

/-- The fair events still to come if nothing else happens (R187): the bytes of the frame in hand, then the checks and
delays of a capture, at most 512. -/
def owedEvents (s : State) : Nat :=
  (if s.encState = .emit then s.plen.toNat + 18 - s.ePos.toNat else 0) +
  (if s.pollPend then 512
   else match s.capState with
    | .check => 2 * (capacity - s.iter.toNat)
    | .wait => 2 * (capacity - s.iter.toNat) - 1
    | .cIdle => 0
    | .done => 0)

/-- `n` steps. -/
def runSteps : Nat → State → Host.Outcome State Fault Refusal
  | 0, s => .next s
  | n + 1, s =>
    match step s with
    | .next t => runSteps n t
    | .fault f => .fault f
    | .refused r => .refused r

/-- The states of every run of every block from power-on, under every interleaving of commands and events (R76). -/
inductive Reachable : State → Prop
  /-- Power-on of a block whose parameters R6 allows, with any agenda. -/
  | powerOn (p : Params) (xs : List Input) (h : 1 ≤ p.rxDepth) : Reachable { State.powerOn p with agenda := xs }
  /-- One step. -/
  | next (s t : State) (h : Reachable s) (hs : step s = .next t) : Reachable t

end Sys2Proof.Machine
end

