-- ==== Sys2Proof/Certificates/Slice0/Obligations.lean ====
section
/-!
DEFINITION. The statements for the provers, in the order of OBLIGATIONS.json: encodings and the step, the commands one
by one, the events, the faults and the responses, the invariant, what only some steps may change, and the laws of the
checksum, of frames and of captures.
-/

open Sys2Proof Sys2Proof.Machine

/-- R94, R95, R102, R106: the code of every instruction decodes back to it, operand and all, as a code, as bytes in the
order of R74, and as a word of the opcode table. -/
def Obligations.EveryCodeDecodesBack : Prop :=
  ∀ i : Instr,
    decode (encode i) = .ok i ∧
    (∀ w, encode i = .command w →
      (∀ rest, decodeBytes (encodeBytes i ++ rest) = .ok (i, rest)) ∧ decodeTableWord 16 w.toNat = some i) ∧
    (∀ b, encode i = .link b → decodeTableWord 8 b.toNat = some i)

/-- R94, R95: a word with an assigned opcode is the code of exactly one instruction, and decodes to it. -/
def Obligations.AssignedWordsNameOneInstruction : Prop :=
  ∀ w : Word, unassigned (opcodeField w) = false →
    ∃ i, decode (.command w) = .ok i ∧ encode i = .command w ∧ ∀ j, encode j = .command w → j = i

/-- R96: an unassigned opcode raises `ILLEGAL_CMD`, changes no other state and returns no response. -/
def Obligations.UnassignedOpcodesRaiseIllegalCmd : Prop :=
  ∀ (w : Word) (rest : List Input) (s : State), unassigned (opcodeField w) = true →
    decode (.command w) = .error (.illegalCmd w) ∧
    (s.agenda = .command w :: rest →
      step s = .next { s with
        agenda := rest, response := none, raised := some .illegalCmd
        err := s.err ||| 0x01#8
        firstErr := if s.err = 0x00#8 then 0x01#8 else s.firstErr
        errCmd := if s.err = 0x00#8 then w else s.errCmd })

/-- R95, R102: words written out from the opcode map decode to the commands they stand for. -/
def Obligations.CommandWordsReadOffTheOpcodeMap : Prop :=
  decode (.command 0x0000#16) = .ok (.nop 0x00#8) ∧
  decode (.command 0x02A0#16) = .ok (.ckFeed 0xA0#8) ∧
  decode (.command 0x1401#16) = .ok (.encManual 0x01#8) ∧
  decode (.command 0x2209#16) = .ok (.capRd 0x09#8) ∧
  decode (.command 0x3F5A#16) = .ok (.reset 0x5A#8) ∧
  decode (.command 0x4000#16) = .error (.illegalCmd 0x4000#16) ∧
  decode (.link 0xA0#8) = .ok .wireTelemetryRequest ∧
  decode (.link 0xAA#8) = .ok .wireManualControl

/-- R10, R93: a step whose input brings an instruction is `exec` of that instruction, from the state with the input
taken off the agenda and the ports open; the same for a code byte the link delivers (the agenda is the model's, log 1,
log 6). -/
def Obligations.StepRunsTheOfferedInstruction : Prop :=
  (∀ (s : State) (w : Word) (rest : List Input) (i : Instr),
    s.agenda = .command w :: rest → decode (.command w) = .ok i →
    step s = exec i { s with agenda := rest, response := none, raised := none }) ∧
  (∀ (s : State) (b : Byte) (rest : List Input) (i : Instr),
    s.agenda = .rxArrive b :: rest → decode (.link b) = .ok i →
    step s = exec i { s with agenda := rest, response := none, raised := none })

/-- R105, R252, R262 and log 2, the model's choice: with nothing on the agenda the enabled fair event happens, and where
none is enabled the block waits. -/
def Obligations.EmptyAgendaStepsTakeTheFairEvent : Prop :=
  ∀ s : State, s.agenda = [] →
    (s.encState = .emit → step s = step { s with agenda := [.txAccept] }) ∧
    (s.encState ≠ .emit → s.capState = .check → step s = step { s with agenda := [.capCheck] }) ∧
    (s.encState ≠ .emit → s.capState = .wait → step s = step { s with agenda := [.timerExpire] }) ∧
    (s.encState ≠ .emit → capActive s = false → step s = .next s)

/-- R200: `NOP` leaves every state unchanged. -/
def Obligations.NopChangesNothing : Prop :=
  ∀ (v : Byte) (s : State), decode (.command (0x00#8 ++ v)) = .ok (.nop v) ∧ exec (.nop v) s = .next s

/-- R123: `CK_INIT` clears the engine in every state, and touches no frame. -/
def Obligations.CkInitClearsTheEngine : Prop :=
  ∀ (v : Byte) (s : State), decode (.command (0x01#8 ++ v)) = .ok (.ckInit v) ∧
    ∃ t, exec (.ckInit v) s = .next t ∧ t = { s with ckState := .empty, r1 := 0x00#8, r2 := 0x00#8 } ∧
      (statusView t).extractLsb' 0 2 = 0#2 ∧ ∀ k, frameByte t k = frameByte s k

/-- R124: `CK_FEED` loads the two seed bytes and then shifts every byte in, eight shifts in one step. -/
def Obligations.CkFeedAbsorbsOneByte : Prop :=
  ∀ (b : Byte) (s : State), decode (.command (0x02#8 ++ b)) = .ok (.ckFeed b) ∧
    (s.ckState = .empty → exec (.ckFeed b) s = .next { s with r1 := b, ckState := .one }) ∧
    (s.ckState = .one → exec (.ckFeed b) s = .next { s with r2 := b, ckState := .run }) ∧
    (s.ckState = .run →
      exec (.ckFeed b) s =
        .next (setEngine
          (Engine.shifts 8 { ckState := .run, r1 := s.r1, r2 := s.r2, r3 := b, r4 := s.r4 }) s))

/-- R121: one shift, bit by bit: the new low bits are the old top bits of the next register, and the XOR tests `r1` as
it was. -/
def Obligations.ShiftIsTheDocumentsBitStep : Prop :=
  ∀ e : Engine, e.shift =
    { ckState := e.ckState
      r1 := ((e.r1 <<< 1) + (if e.r2.getLsbD 7 then 0x01#8 else 0x00#8))
        ^^^ (if e.r1.getLsbD 7 then 0x10#8 else 0x00#8)
      r2 := ((e.r2 <<< 1) + (if e.r3.getLsbD 7 then 0x01#8 else 0x00#8))
        ^^^ (if e.r1.getLsbD 7 then 0x41#8 else 0x00#8)
      r3 := e.r3 <<< 1
      r4 := e.r1 }

/-- The spec's own inference R128 from R121: one shift on `(r1 << 8) | r2` is a 16-bit shift with `0x1041` fed back. -/
def Obligations.ShiftHasTheSixteenBitForm : Prop :=
  ∀ (e : Engine) (r : Word), r = e.r1 ++ e.r2 →
    (e.shift.r1 ++ e.shift.r2 : Word) =
      ((r <<< 1) ||| (if e.r3.getLsbD 7 then 0x0001#16 else 0x0000#16))
        ^^^ (if r.getLsbD 15 then 0x1041#16 else 0x0000#16)

/-- R125, R126: the checksum reads answer the two registers, or `CK_SHORT` and `0x00` before two bytes are fed. -/
def Obligations.CkReadsAnswerTheChecksum : Prop :=
  ∀ (v : Byte) (s : State),
    decode (.command (0x03#8 ++ v)) = .ok (.ckRdHi v) ∧ decode (.command (0x04#8 ++ v)) = .ok (.ckRdLo v) ∧
    (s.ckState = .run →
      exec (.ckRdHi v) s = .next { s with response := some s.r1 } ∧
      exec (.ckRdLo v) s = .next { s with response := some s.r2 }) ∧
    (s.ckState ≠ .run →
      exec (.ckRdHi v) s =
        .next { recordFault .ckShort (0x03#8 ++ v) s with response := some 0x00#8 } ∧
      exec (.ckRdLo v) s =
        .next { recordFault .ckShort (0x04#8 ++ v) s with response := some 0x00#8 })

/-- The spec's own inference R127 from R120, R125, R126: two bytes are their own checksum, fewer have none and leave the
reads faulting, more always have one. -/
def Obligations.ChecksumNeedsTwoBytes : Prop :=
  (∀ x y : Byte, checksum [x, y] = some (x ++ y)) ∧
  (∀ bs : List Byte, (checksum bs).isSome = true ↔ 2 ≤ bs.length) ∧
  (∀ (e : Engine) (bs : List Byte), ((e.clear).feedAll bs).ckState = .run ↔ 2 ≤ bs.length)

/-- R142: `ENC_BEGIN` opens a frame in every state but `EMIT`, where it is refused with `BUSY`. -/
def Obligations.EncBeginOpensAFrame : Prop :=
  ∀ (c : Byte) (s : State), decode (.command (0x10#8 ++ c)) = .ok (.encBegin c) ∧
    (s.encState ≠ .emit →
      exec (.encBegin c) s = .next { s with eCmd := c, plen := 0x00#8, encState := .assemble }) ∧
    (s.encState = .emit → exec (.encBegin c) s = .next (recordFault .busy (0x10#8 ++ c) s))

/-- R143: `ENC_PUSH` stores the byte at `PLEN` and counts it, and no other byte of a store changes; its three faults. -/
def Obligations.EncPushAppendsOneByte : Prop :=
  ∀ (b : Byte) (s : State), Memory.wf s.pbuf = true →
    decode (.command (0x11#8 ++ b)) = .ok (.encPush b) ∧
    (s.encState = .assemble → s.plen.toNat < 255 →
      ∃ t, exec (.encPush b) s = .next t ∧
        t = { s with pbuf := t.pbuf, plen := t.plen } ∧
        t.plen.toNat = s.plen.toNat + 1 ∧
        Memory.read t.pbuf s.plen.toNat = b ∧
        ∀ k, k ≠ s.plen.toNat → Memory.read t.pbuf k = Memory.read s.pbuf k) ∧
    (s.encState = .emit → exec (.encPush b) s = .next (recordFault .busy (0x11#8 ++ b) s)) ∧
    (s.encState = .idle → exec (.encPush b) s = .next (recordFault .encSeq (0x11#8 ++ b) s)) ∧
    (s.encState = .assemble → s.plen.toNat = 255 →
      exec (.encPush b) s = .next (recordFault .encOvf (0x11#8 ++ b) s))

/-- R141, R144, R147: `ENC_SEND` latches the checksum of the span and starts the emission; the engine ends with that
checksum; nothing else changes. `BUSY` goes before `ENC_SEQ`. -/
def Obligations.EncSendLatchesTheSpanChecksum : Prop :=
  ∀ (v : Byte) (s : State), decode (.command (0x12#8 ++ v)) = .ok (.encSend v) ∧
    (s.encState = .assemble → capActive s = false →
      ∃ t w, exec (.encSend v) s = .next t ∧
        checksum ([s.devId, s.eCmd, s.plen] ++ payload s ++ [0x00#8, 0x00#8]) = some w ∧
        engineOf t = (engineOf s).clear.feedAll ([s.devId, s.eCmd, s.plen] ++ payload s ++ [0x00#8, 0x00#8]) ∧
        t = { s with
          ckState := .run, r1 := wordHi w, r2 := wordLo w, r3 := t.r3, r4 := t.r4
          eDev := s.devId, eCkHi := wordHi w, eCkLo := wordLo w, ePos := 0#9, encState := .emit }) ∧
    (s.encState = .emit ∨ capActive s = true →
      exec (.encSend v) s = .next (recordFault .busy (0x12#8 ++ v) s)) ∧
    (s.encState = .idle → capActive s = false →
      exec (.encSend v) s = .next (recordFault .encSeq (0x12#8 ++ v) s))

/-- R145: `ENC_TELEM` starts the fixed frame, the engine and `PBUF` untouched, whatever `DEVID` is. -/
def Obligations.EncTelemStartsTheFixedFrame : Prop :=
  ∀ (v : Byte) (s : State), decode (.command (0x13#8 ++ v)) = .ok (.encTelem v) ∧
    (s.encState = .idle → capActive s = false →
      exec (.encTelem v) s = .next { s with
        eCmd := 0xA0#8, plen := 0x00#8, eDev := s.devId, eCkHi := 0xB1#8, eCkLo := 0xA7#8, ePos := 0#9
        encState := .emit }) ∧
    (s.encState ≠ .idle ∨ capActive s = true →
      exec (.encTelem v) s = .next (recordFault .busy (0x13#8 ++ v) s))

/-- R146: `ENC_MANUAL` stores its selector as the one payload byte, latches the computed checksum and starts the
emission; the bad selector is reported before `BUSY`. -/
def Obligations.EncManualSendsItsSelector : Prop :=
  ∀ (v : Byte) (s : State), Memory.wf s.pbuf = true →
    decode (.command (0x14#8 ++ v)) = .ok (.encManual v) ∧
    (v.toNat ≤ 1 → s.encState = .idle → capActive s = false →
      ∃ t w, exec (.encManual v) s = .next t ∧
        checksum [s.devId, 0xAA#8, 0x01#8, v, 0x00#8, 0x00#8] = some w ∧
        engineOf t = (engineOf s).clear.feedAll [s.devId, 0xAA#8, 0x01#8, v, 0x00#8, 0x00#8] ∧
        t = { s with
          ckState := .run, r1 := wordHi w, r2 := wordLo w, r3 := t.r3, r4 := t.r4
          eCmd := 0xAA#8, pbuf := t.pbuf, plen := 0x01#8
          eDev := s.devId, eCkHi := wordHi w, eCkLo := wordLo w, ePos := 0#9, encState := .emit } ∧
        Memory.read t.pbuf 0 = v ∧ ∀ k, k ≠ 0 → Memory.read t.pbuf k = Memory.read s.pbuf k) ∧
    (1 < v.toNat → exec (.encManual v) s = .next (recordFault .illegalOperand (0x14#8 ++ v) s)) ∧
    (v.toNat ≤ 1 → (s.encState ≠ .idle ∨ capActive s = true) →
      exec (.encManual v) s = .next (recordFault .busy (0x14#8 ++ v) s))

/-- R171: `CAP_START` starts a capture, `BUF` and `RXQ` as they are, unless the link is in use. -/
def Obligations.CapStartStartsACapture : Prop :=
  ∀ (v : Byte) (s : State), decode (.command (0x20#8 ++ v)) = .ok (.capStart v) ∧
    (s.encState ≠ .emit → capActive s = false →
      exec (.capStart v) s = .next { s with iter := 0#9, widx := 0#9, capState := .check }) ∧
    (s.encState = .emit ∨ capActive s = true →
      exec (.capStart v) s = .next (recordFault .busy (0x20#8 ++ v) s))

/-- R172: `POLL` starts the telemetry-request frame and leaves a capture pending, which the `TX_ACCEPT` that takes the
terminator starts. -/
def Obligations.PollStartsTheFrameAndPendsACapture : Prop :=
  (∀ (v : Byte) (s : State), decode (.command (0x21#8 ++ v)) = .ok (.poll v) ∧
    (s.encState = .idle → capActive s = false →
      exec (.poll v) s = .next { s with
        eCmd := 0xA0#8, plen := 0x00#8, eDev := s.devId, eCkHi := 0xB1#8, eCkLo := 0xA7#8, ePos := 0#9
        encState := .emit, pollPend := true }) ∧
    (s.encState ≠ .idle ∨ capActive s = true →
      exec (.poll v) s = .next (recordFault .busy (0x21#8 ++ v) s))) ∧
  (∀ (u : State) (rest : List Input), u.agenda = .txAccept :: rest → u.encState = .emit → u.pollPend = true →
    u.ePos.toNat = u.plen.toNat + 17 →
    ∃ t, step u = .next t ∧ t.encState = .idle ∧ t.pollPend = false ∧ t.iter = 0#9 ∧ t.widx = 0#9 ∧
      t.capState = .check)

/-- R173: `CAP_RD` answers the buffer byte at its operand, every operand in range, unless a capture owns the buffer. -/
def Obligations.CapRdReadsTheBuffer : Prop :=
  ∀ (i : Byte) (s : State), decode (.command (0x22#8 ++ i)) = .ok (.capRd i) ∧
    (capActive s = false → s.pollPend = false →
      exec (.capRd i) s = .next { s with response := some (Memory.read s.buf i.toNat) }) ∧
    (capActive s = true ∨ s.pollPend = true →
      exec (.capRd i) s = .next { recordFault .busy (0x22#8 ++ i) s with response := some 0x00#8 })

/-- R74, R174, R175: the two halves of each counter, in every state; together they are the counter. -/
def Obligations.CaptureCountersReadInTwoHalves : Prop :=
  ∀ (v : Byte) (s : State),
    decode (.command (0x23#8 ++ v)) = .ok (.capLenLo v) ∧ decode (.command (0x24#8 ++ v)) = .ok (.capLenHi v) ∧
    decode (.command (0x25#8 ++ v)) = .ok (.capIterLo v) ∧ decode (.command (0x26#8 ++ v)) = .ok (.capIterHi v) ∧
    (∃ lo hi, exec (.capLenLo v) s = .next { s with response := some lo } ∧
      exec (.capLenHi v) s = .next { s with response := some hi } ∧
      s.widx.toNat = 256 * hi.toNat + lo.toNat) ∧
    (∃ lo hi, exec (.capIterLo v) s = .next { s with response := some lo } ∧
      exec (.capIterHi v) s = .next { s with response := some hi } ∧
      s.iter.toNat = 256 * hi.toNat + lo.toNat)

/-- R55, R201: `RD_STATUS` answers the view of R55, in every state. -/
def Obligations.RdStatusAnswersTheView : Prop :=
  ∀ (v : Byte) (s : State), decode (.command (0x30#8 ++ v)) = .ok (.rdStatus v) ∧
    exec (.rdStatus v) s = .next { s with
      response := some ((ckCode s.ckState).setWidth 8 ||| ((encCode s.encState).setWidth 8 <<< 2)
        ||| ((capCode s.capState).setWidth 8 <<< 4) ||| ((if s.pollPend then 0x01#8 else 0x00#8) <<< 6)
        ||| ((if s.err ≠ 0x00#8 then 0x01#8 else 0x00#8) <<< 7)) }

/-- R202 to R206: the other control reads answer their register, in every state, and change nothing else; in states
that meet the invariant, bits 7 and 6 of `ERR` are 0, and with no fault recorded the cause and the word are 0. -/
def Obligations.ControlReadsAnswerTheirRegister : Prop :=
  ∀ (v : Byte) (s : State),
    decode (.command (0x31#8 ++ v)) = .ok (.rdErr v) ∧ decode (.command (0x32#8 ++ v)) = .ok (.rdCause v) ∧
    decode (.command (0x33#8 ++ v)) = .ok (.rdErrCmdHi v) ∧ decode (.command (0x34#8 ++ v)) = .ok (.rdErrCmdLo v) ∧
    decode (.command (0x35#8 ++ v)) = .ok (.rdDevId v) ∧
    exec (.rdErr v) s = .next { s with response := some s.err } ∧
    exec (.rdCause v) s = .next { s with response := some s.firstErr } ∧
    (∃ hi lo, exec (.rdErrCmdHi v) s = .next { s with response := some hi } ∧
      exec (.rdErrCmdLo v) s = .next { s with response := some lo } ∧ s.errCmd = hi ++ lo) ∧
    exec (.rdDevId v) s = .next { s with response := some s.devId } ∧
    (FaultInv s → s.err.extractLsb' 6 2 = 0#2 ∧ (s.err = 0x00#8 → s.firstErr = 0x00#8 ∧ s.errCmd = 0x0000#16))

/-- R207: `CFG_DEVID` writes `DEVID` in every state; the frame being sent keeps its bytes. -/
def Obligations.CfgDevIdWritesTheDeviceId : Prop :=
  ∀ (d : Byte) (s : State), decode (.command (0x36#8 ++ d)) = .ok (.cfgDevId d) ∧
    ∃ t, exec (.cfgDevId d) s = .next t ∧ t = { s with devId := d } ∧ ∀ k, frameByte t k = frameByte s k

/-- R61, R208: the reset value of every element, the same after power-on and after `RESET`; `RESET` never faults, clears
the fault record and leaves the transmit history. -/
def Obligations.ResetLeavesTheResetValues : Prop :=
  ∀ (v : Byte) (s : State), decode (.command (0x3F#8 ++ v)) = .ok (.reset v) ∧
    ∃ t, exec (.reset v) s = .next t ∧
    (∀ u, u = t ∨ u = State.powerOn s.params →
      u.ckState = .empty ∧ u.r1 = 0x00#8 ∧ u.r2 = 0x00#8 ∧ u.r3 = 0x00#8 ∧ u.r4 = 0x00#8 ∧
      u.devId = s.params.devIdReset ∧ u.encState = .idle ∧ u.eCmd = 0x00#8 ∧
      (∀ k, Memory.read u.pbuf k = 0x00#8) ∧ u.plen = 0x00#8 ∧ u.eDev = 0x00#8 ∧ u.eCkHi = 0x00#8 ∧
      u.eCkLo = 0x00#8 ∧ u.ePos = 0#9 ∧ u.pollPend = false ∧ u.capState = .cIdle ∧ u.iter = 0#9 ∧ u.widx = 0#9 ∧
      (∀ k, Memory.read u.buf k = 0x00#8) ∧ u.rxq = [] ∧ u.err = 0x00#8 ∧ u.firstErr = 0x00#8 ∧
      u.errCmd = 0x0000#16 ∧ statusView u = 0x00#8) ∧
    t.txHistory = s.txHistory

/-- The model's choice (log 14): `RESET` leaves what is not an element of the block as it is: the parameters, the ports,
the transmit history (R208) and the agenda. -/
def Obligations.ResetKeepsWhatIsNotTheBlocks : Prop :=
  ∀ (v : Byte) (s t : State), exec (.reset v) s = .next t →
    t.params = s.params ∧ t.response = s.response ∧ t.raised = s.raised ∧ t.txHistory = s.txHistory ∧
    t.agenda = s.agenda

/-- R102, R176 and log 6, the model's choice: a device-link command code that reaches the block joins the receive queue
uninterpreted, or is dropped when the queue is full; nothing else changes. -/
def Obligations.LinkCodesJoinTheReceiveQueue : Prop :=
  ∀ s : State,
    (s.rxq.length < s.params.rxDepth →
      exec .wireTelemetryRequest s = .next { s with rxq := s.rxq ++ [0xA0#8] } ∧
      exec .wireManualControl s = .next { s with rxq := s.rxq ++ [0xAA#8] }) ∧
    (s.params.rxDepth ≤ s.rxq.length →
      exec .wireTelemetryRequest s = .next s ∧ exec .wireManualControl s = .next s)

/-- R224, R225: a command that faults records the fault and changes nothing else; of the response class it answers
`0x00`. When it faults is the spec's own table R221, collected from the commands' rules. -/
def Obligations.FaultingCommandsOnlyRecord : Prop :=
  ∀ (i : Instr) (s : State) (f : FaultKind), faultOf s i = some f →
    exec i s = .next { s with
      firstErr := if s.err = 0x00#8 then faultCode f else s.firstErr
      errCmd := if s.err = 0x00#8 then commandWord i else s.errCmd
      err := s.err ||| (0x01#8 <<< ((faultCode f).toNat - 1))
      raised := some f
      response := if responds i then some 0x00#8 else s.response }

/-- The spec's own table R221, collected from the commands' rules: outside the conditions of the table no command
faults, and every command goes on to a next state. -/
def Obligations.NoFaultOutsideTheTable : Prop :=
  ∀ (i : Instr) (s : State), ∃ t, exec i s = .next t ∧
    (t.raised = match faultOf s i with
      | some f => some f
      | none => s.raised) ∧
    (faultOf s i = none → (∀ v, i ≠ .reset v) →
      t.err = s.err ∧ t.firstErr = s.firstErr ∧ t.errCmd = s.errCmd)

/-- R92: exactly the response class answers a byte in its step; an illegal opcode answers none; a faulted read answers
`0x00`. -/
def Obligations.ExactlyTheResponseClassAnswers : Prop :=
  ∀ (s : State) (w : Word) (rest : List Input), s.agenda = .command w :: rest →
    ∃ t, step s = .next t ∧
      (∀ i, decode (.command w) = .ok i →
        t.response.isSome = responds i ∧ (t.raised ≠ none → responds i = true → t.response = some 0x00#8)) ∧
      (∀ r, decode (.command w) = .error r → t.response = none)

/-- R77's reads, which change nothing, faulted or not: a read twice in a row answers the same and changes nothing the
second time, faulted or not. -/
def Obligations.ReadsAreIdempotent : Prop :=
  ∀ (i : Instr) (s t : State), responds i = true → exec i s = .next t → exec i t = .next t

/-- R150: `TX_ACCEPT` in `EMIT` sends the byte at `E_POS` and moves on; with the terminator the emission ends, and a
pending capture starts in the same step. -/
def Obligations.TxAcceptSendsTheNextFrameByte : Prop :=
  ∀ (s : State) (rest : List Input), s.agenda = .txAccept :: rest → s.encState = .emit →
    s.ePos.toNat ≤ s.plen.toNat + 17 →
    ∃ v t, frameByte s s.ePos.toNat = some v ∧ step s = .next t ∧
      t.ePos.toNat = s.ePos.toNat + 1 ∧
      (s.ePos.toNat < s.plen.toNat + 17 →
        t = { s with
          agenda := rest, response := none, raised := none, txHistory := s.txHistory ++ [v], ePos := t.ePos }) ∧
      (s.ePos.toNat = s.plen.toNat + 17 → s.pollPend = false →
        v = 0x7F#8 ∧ t = { s with
          agenda := rest, response := none, raised := none, txHistory := s.txHistory ++ [v], ePos := t.ePos
          encState := .idle }) ∧
      (s.ePos.toNat = s.plen.toNat + 17 → s.pollPend = true →
        v = 0x7F#8 ∧ t = { s with
          agenda := rest, response := none, raised := none, txHistory := s.txHistory ++ [v], ePos := t.ePos
          encState := .idle, pollPend := false, iter := 0#9, widx := 0#9, capState := .check })

/-- R176: every arriving byte joins the queue's tail, or is dropped when the queue is full; nothing else changes. -/
def Obligations.RxArriveQueuesOrDrops : Prop :=
  ∀ (s : State) (b : Byte) (rest : List Input), s.agenda = .rxArrive b :: rest →
    (s.rxq.length < s.params.rxDepth →
      step s = .next { s with agenda := rest, response := none, raised := none, rxq := s.rxq ++ [b] }) ∧
    (s.params.rxDepth ≤ s.rxq.length →
      step s = .next { s with agenda := rest, response := none, raised := none })

/-- R177: `CAP_CHECK` in `CHECK` stores the head of the queue at `WIDX`, and no other byte of the buffer changes; with
the queue empty the iteration ends. -/
def Obligations.CapCheckStoresOrCounts : Prop :=
  ∀ (s : State) (rest : List Input), s.agenda = .capCheck :: rest → s.capState = .check →
    Memory.wf s.buf = true → s.iter.toNat < 256 → s.widx.toNat ≤ s.iter.toNat →
    (∀ b q, s.rxq = b :: q →
      ∃ t, step s = .next t ∧
        t = { s with
          agenda := rest, response := none, raised := none, rxq := q, buf := t.buf, widx := t.widx, capState := .wait } ∧
        t.widx.toNat = s.widx.toNat + 1 ∧ Memory.read t.buf s.widx.toNat = b ∧
        ∀ k, k ≠ s.widx.toNat → Memory.read t.buf k = Memory.read s.buf k) ∧
    (s.rxq = [] →
      ∃ t, step s = .next t ∧
        t = { s with
          agenda := rest, response := none, raised := none, iter := t.iter
          capState := if s.iter.toNat + 1 = 256 then .done else .check } ∧
        t.iter.toNat = s.iter.toNat + 1)

/-- R178: `TIMER_EXPIRE` in `WAIT` ends the iteration, the last one straight to `DONE`. -/
def Obligations.TimerExpireEndsTheIteration : Prop :=
  ∀ (s : State) (rest : List Input), s.agenda = .timerExpire :: rest → s.capState = .wait → s.iter.toNat < 256 →
    ∃ t, step s = .next t ∧
      t = { s with
        agenda := rest, response := none, raised := none, iter := t.iter
        capState := if s.iter.toNat + 1 = 256 then .done else .check } ∧
      t.iter.toNat = s.iter.toNat + 1

/-- R105 and log 3, the model's choice: an event that is not enabled is no step of the block; the turn passes and
nothing of the block changes. -/
def Obligations.DisabledEventsPass : Prop :=
  ∀ (s : State) (x : Input) (rest : List Input), s.agenda = x :: rest →
    (x = .txAccept ∧ s.encState ≠ .emit) ∨ (x = .capCheck ∧ s.capState ≠ .check) ∨
      (x = .timerExpire ∧ s.capState ≠ .wait) →
    step s = .next { s with agenda := rest, response := none, raised := none }

/-- The spec's own inferences R45 and R60, as logs 9 and 10 correct them: the invariant holds at power-on of every
block, whatever its agenda. -/
def Obligations.PowerOnMeetsTheInvariant : Prop :=
  ∀ (p : Params) (xs : List Input), 1 ≤ p.rxDepth →
    BlockInv { State.powerOn p with agenda := xs } ∧ BlockInv State.reset

/-- The spec's own inferences R45 and R60, as logs 9 and 10 correct them: every step keeps the invariant: counters in
range, half-duplex, the fault registers consistent, the byte stores in canonical form and within their sizes, the queue
within `RX_DEPTH`. -/
def Obligations.EveryStepKeepsTheInvariant : Prop :=
  ∀ s t : State, BlockInv s → step s = .next t → BlockInv t

/-- R94, R226 and the spec's own inference R180: a state that meets the invariant always goes on to a next state: no
command, event or illegal word stops the machine. -/
def Obligations.InvariantStatesNeverStop : Prop :=
  ∀ s : State, BlockInv s → ∃ t, step s = .next t

/-- The spec's own inference R60(a) as it is worded, `WIDX <= ITER` in every reachable state. It fails in `WAIT`, by
R177's own example (log 9). -/
def Obligations.StoredNeverExceedsIterationsAsWorded : Prop :=
  ∀ s : State, Reachable s → s.widx.toNat ≤ s.iter.toNat

/-- The spec's own inference R45 as it is worded, `E_POS <= PLEN + 18` outside `EMIT` in every reachable state. It fails
in `ASSEMBLE` after a frame with a payload (log 10). -/
def Obligations.PositionBoundOutsideEmitAsWorded : Prop :=
  ∀ s : State, Reachable s → s.encState ≠ .emit → s.ePos.toNat ≤ s.plen.toNat + 18

/-- R133 and the spec's own inference R122: no step writes the engine but `CK_INIT`, `CK_FEED`, `ENC_SEND`, `ENC_MANUAL`
and `RESET`, and none writes `DEVID` but `CFG_DEVID` and `RESET` (R36). -/
def Obligations.EngineAndDeviceIdWriters : Prop :=
  ∀ (s t u : State) (x : Input), takeInput s = some (x, u) → step s = .next t →
    (clearsEngine x = false → fedByte x = none → engineOf t = engineOf s) ∧
    ((∀ d, inputInstr x ≠ some (.cfgDevId d)) → isReset x = false → t.devId = s.devId)

/-- R70, R181 and the spec's own inference R180: no step but `RESET` changes a byte of `BUF`, except a present
`CAP_CHECK`, which changes the one at `WIDX` to the head of the queue. -/
def Obligations.BufferBytesChangeOnlyByACheck : Prop :=
  ∀ (s t u : State) (x : Input), Memory.wf s.buf = true → takeInput s = some (x, u) → step s = .next t →
    isReset x = false → ∀ k, Memory.read t.buf k ≠ Memory.read s.buf k →
      x = .capCheck ∧ s.capState = .check ∧ k = s.widx.toNat ∧ k < 256 ∧
        s.rxq.head? = some (Memory.read t.buf k)

/-- R52 to R54, R228: no step but `RESET` clears an `ERR` bit, and once a fault is recorded none changes `FIRSTERR` or
`ERRCMD`. -/
def Obligations.FaultRecordIsSticky : Prop :=
  ∀ (s t u : State) (x : Input), takeInput s = some (x, u) → step s = .next t → isReset x = false →
    (∀ n, s.err.getLsbD n = true → t.err.getLsbD n = true) ∧
    (s.err ≠ 0x00#8 → t.firstErr = s.firstErr ∧ t.errCmd = s.errCmd)

/-- The spec's own inferences R83 and R148: while a frame is being sent, no step but `RESET` changes what its bytes are
read from. -/
def Obligations.FrameLatchesHoldDuringEmission : Prop :=
  ∀ (s t u : State) (x : Input), s.encState = .emit → takeInput s = some (x, u) → step s = .next t →
    isReset x = false →
    t.eDev = s.eDev ∧ t.eCmd = s.eCmd ∧ t.plen = s.plen ∧ t.pbuf = s.pbuf ∧ t.eCkHi = s.eCkHi ∧ t.eCkLo = s.eCkLo ∧
      ∀ k, frameByte t k = frameByte s k

/-- R150 and the spec's own inference R148: a byte reaches the link only in `EMIT` and only as the frame byte at
`E_POS`; no step takes one back, `RESET` neither (R208). -/
def Obligations.LinkBytesComeOnlyFromTheFrame : Prop :=
  ∀ s t : State, step s = .next t →
    t.txHistory = s.txHistory ∨
    (s.encState = .emit ∧ ∃ v, frameByte s s.ePos.toNat = some v ∧ t.txHistory = s.txHistory ++ [v])

/-- R100, R140: the frame bytes of a state, in order, are the frame of its latches, and there is none past the
terminator. -/
def Obligations.FrameBytesAreTheWireFrame : Prop :=
  ∀ (s : State) (k : Nat),
    frameByte s k =
      ([0xAA#8, 0x55#8, 0xAA#8, 0x55#8, 0xAA#8, 0x55#8, 0xEB#8, 0x90#8, 0xEB#8, 0x90#8, 0xEB#8, 0x90#8,
        s.eDev, s.eCmd, s.plen] ++ payload s ++ [s.eCkHi, s.eCkLo, 0x7F#8])[k]?

/-- The spec's own inferences R103 and R104: the bytes of the two fixed frames that `ENC_TELEM` and `ENC_MANUAL` put in
hand. -/
def Obligations.FixedFramesHaveTheirBytes : Prop :=
  ∀ (v : Byte) (s : State), Memory.wf s.pbuf = true → s.encState = .idle → capActive s = false →
    (∃ t, exec (.encTelem v) s = .next t ∧ ∀ k, frameByte t k =
      [0xAA#8, 0x55#8, 0xAA#8, 0x55#8, 0xAA#8, 0x55#8, 0xEB#8, 0x90#8, 0xEB#8, 0x90#8, 0xEB#8, 0x90#8,
        s.devId, 0xA0#8, 0x00#8, 0xB1#8, 0xA7#8, 0x7F#8][k]?) ∧
    (v.toNat ≤ 1 →
      ∃ t hi lo, exec (.encManual v) s = .next t ∧
        checksum [s.devId, 0xAA#8, 0x01#8, v, 0x00#8, 0x00#8] = some (hi ++ lo) ∧
        (s.devId = 0x16#8 → hi ++ lo = if v = 0x00#8 then 0xFCC9#16 else 0xEC88#16) ∧
        ∀ k, frameByte t k =
          [0xAA#8, 0x55#8, 0xAA#8, 0x55#8, 0xAA#8, 0x55#8, 0xEB#8, 0x90#8, 0xEB#8, 0x90#8, 0xEB#8, 0x90#8,
            s.devId, 0xAA#8, 0x01#8, v, hi, lo, 0x7F#8][k]?)

/-- The spec's own inference R122 from R120, R123, R124: whatever other inputs are interleaved, but for the commands
that write the engine, feeding bytes from a clear engine leaves their checksum. -/
def Obligations.StreamingEqualsBatch : Prop :=
  ∀ (s : State) (xs : List Input), BlockInv s → s.ckState = .empty → s.agenda = xs →
    (∀ x ∈ xs, clearsEngine x = false) →
    ∃ t, runSteps xs.length s = .next t ∧
      (2 ≤ (xs.filterMap fedByte).length →
        t.ckState = .run ∧ checksum (xs.filterMap fedByte) = some (t.r1 ++ t.r2))

/-- R112 and the spec's own inference R122: the `CHECKSUM` sequence answers the two bytes of the checksum, from every
state. -/
def Obligations.ChecksumSequenceAnswersTheChecksum : Prop :=
  ∀ (s : State) (bs : List Byte) (is : List Instr) (rest : List Input),
    expand (.checksum bs) = .ok is → s.agenda = commandInputs is ++ rest →
    ∃ w t u, checksum bs = some w ∧
      runSteps (bs.length + 2) s = .next t ∧ t.response = some (wordHi w) ∧
      step t = .next u ∧ u.response = some (wordLo w) ∧ u.agenda = rest ∧ u.err = s.err

/-- The spec's own inference R130: the checksum of the bytewise XOR is the XOR of the checksums, and a leading zero byte
changes nothing. -/
def Obligations.ChecksumIsLinear : Prop :=
  (∀ a b : List Byte, a.length = b.length → 2 ≤ a.length →
    ∃ u v, checksum a = some u ∧ checksum b = some v ∧
      checksum (List.zipWith (fun x y => x ^^^ y) a b) = some (u ^^^ v)) ∧
  (∀ b : List Byte, 2 ≤ b.length → checksum (0x00#8 :: b) = checksum b)

/-- The spec's own inference R131: a sequence followed by the checksum of its zero-padded form checks to zero, and only
that pair of bytes does. -/
def Obligations.ChecksumHasZeroResidue : Prop :=
  ∀ s : List Byte, ∃ c, checksum (s ++ [0x00#8, 0x00#8]) = some c ∧
    ∀ hi lo : Byte, checksum (s ++ [hi, lo]) = some 0x0000#16 ↔ hi ++ lo = c

/-- The spec's own inference R129: the checksum is the remainder of the message polynomial modulo `x^16 + x^12 + x^6 +
1` over GF(2), both read highest degree first. -/
def Obligations.ChecksumIsThePolynomialRemainder : Prop :=
  ∀ (bs : List Byte) (w : Word), checksum bs = some w →
    (List.ofFn fun k : Fin 16 => w.getMsbD k).foldl
        (fun (p : Polynomial (ZMod 2)) bit => p * Polynomial.X + (if bit then 1 else 0)) 0 =
      (bs.flatMap fun b => List.ofFn fun k : Fin 8 => b.getMsbD k).foldl
        (fun (p : Polynomial (ZMod 2)) bit => p * Polynomial.X + (if bit then 1 else 0)) 0
        %ₘ (Polynomial.X ^ 16 + Polynomial.X ^ 12 + Polynomial.X ^ 6 + 1)

/-- The spec's own inference R153: the fixed telemetry checksum is the checksum of its span for device id `0x16` alone.
-/
def Obligations.FixedTelemetryChecksumFitsOneDevice : Prop :=
  ∀ d : Byte, checksum (span d 0xA0#8 []) = some 0xB1A7#16 ↔ d = 0x16#8

/-- The spec's own inference R154: payloads of at most two bytes that differ have different checksums; payloads of three
bytes need not. -/
def Obligations.ShortPayloadsHaveDistinctChecksums : Prop :=
  (∀ (d c : Byte) (p q : List Byte), p.length = q.length → p.length ≤ 2 →
    checksum (span d c p) = checksum (span d c q) → p = q) ∧
  (∀ d c : Byte, checksum (span d c [0x00#8, 0x00#8, 0x00#8]) = checksum (span d c [0x01#8, 0x10#8, 0x41#8]))

/-- The spec's own inference R155: every payload of 0 to 255 bytes can be sent with no fault from every state with the
encoder not sending and no capture active, and the frame in hand is then the one that carries its own checksum (R113,
R141). -/
def Obligations.EveryPayloadCanBeSent : Prop :=
  ∀ (s : State) (c : Byte) (ps : List Byte) (rest : List Input), BlockInv s → s.encState ≠ .emit → capActive s = false →
    ps.length ≤ 255 →
    ∃ is, expand (.frame c ps) = .ok is ∧
      (s.agenda = commandInputs is ++ rest →
        ∃ t, runSteps (ps.length + 2) s = .next t ∧ t.agenda = rest ∧ t.err = s.err ∧ t.encState = .emit ∧
          t.ePos = 0#9 ∧ ∀ k, frameByte t k = (computedFrame s.devId c ps)[k]?)

/-- The spec's own inference R148: from the start of an emission, whatever is interleaved but `RESET`, the bytes on the
link are the frame as it stood then, in order. -/
def Obligations.EmissionSendsTheLatchedFrame : Prop :=
  ∀ (s : State) (xs : List Input), BlockInv s → s.encState = .emit → s.ePos = 0#9 → s.agenda = xs →
    (∀ x ∈ xs, isReset x = false) → xs.count .txAccept ≤ s.plen.toNat + 18 →
    ∃ t, runSteps xs.length s = .next t ∧
      t.txHistory = s.txHistory ++
        (wireFrame s.eDev s.eCmd (payload s) s.eCkHi s.eCkLo).take (xs.count .txAccept)

/-- The spec's own inference R187, under the fairness of R262 as log 2 has it: with the host and the link's receiver
silent, every emission and every capture ends, after at most 273 and 512 events. -/
def Obligations.EveryActivityEnds : Prop :=
  ∀ s : State, BlockInv s → s.agenda = [] →
    owedEvents s ≤ 273 + 512 ∧
    ∃ k t, k ≤ owedEvents s ∧ runSteps k s = .next t ∧ t.encState ≠ .emit ∧ capActive t = false ∧
      t.pollPend = false

/-- R181 and the spec's own inferences R179, R180, each step the fair event as log 2 has it: a capture of a waiting queue
ends in `DONE` after 256 iterations with the first 256 bytes of the queue in order at the start of `BUF`, the bytes beyond
as they were, and the rest of the queue still waiting. -/
def Obligations.CaptureTakesTheWaitingBytes : Prop :=
  ∀ s : State, BlockInv s → s.agenda = [] → s.capState = .check → s.iter = 0#9 →
    ∃ k t, k ≤ 512 ∧ runSteps k s = .next t ∧ t.capState = .done ∧ t.iter.toNat = 256 ∧
      t.widx.toNat = min 256 s.rxq.length ∧ t.rxq = s.rxq.drop 256 ∧
      (∀ j b, j < 256 → s.rxq[j]? = some b → Memory.read t.buf j = b) ∧
      (∀ j, min 256 s.rxq.length ≤ j → Memory.read t.buf j = Memory.read s.buf j)
end

