-- ==== Sys2Proof/Laws/Decode.lean ====
section
/-!
SUPPORT. The two fields of a command word, and the word put together from them.
-/

namespace Sys2Proof

/-- A bit of a word put together from two bytes. -/
theorem getLsbD_wordAppend (op v : Byte) (i : Nat) :
    BitVec.getLsbD (w := 16) (op ++ v) i = if i < 8 then v.getLsbD i else op.getLsbD (i - 8) := by
  have h := BitVec.getLsbD_append (x := op) (y := v) (i := i)
  simpa using h

@[simp] theorem opcodeField_append (op v : Byte) : opcodeField (op ++ v) = op := by
  apply BitVec.eq_of_getLsbD_eq
  intro i hi
  rw [opcodeField, BitVec.getLsbD_extractLsb', getLsbD_wordAppend]
  simp [hi]

@[simp] theorem operandField_append (op v : Byte) : operandField (op ++ v) = v := by
  apply BitVec.eq_of_getLsbD_eq
  intro i hi
  rw [operandField, BitVec.getLsbD_extractLsb', getLsbD_wordAppend]
  simp [hi]

@[simp] theorem opcodeField_append_operandField (w : Word) : opcodeField w ++ operandField w = w := by
  apply BitVec.eq_of_getLsbD_eq
  intro i hi
  rw [getLsbD_wordAppend]
  simp only [opcodeField, operandField, BitVec.getLsbD_extractLsb']
  by_cases h : i < 8
  · simp [h]
  · have : i - 8 < 8 := by omega
    simp [h, this, Nat.add_sub_cancel' (by omega : 8 ≤ i)]

/-- A word put together from two bytes decodes as those bytes do. -/
@[simp] theorem decodeCommand_append (op v : Byte) : decodeCommand (op ++ v) = decodeFields op v := by
  rw [decodeCommand, opcodeField_append, operandField_append]

end Sys2Proof
end

