-- ==== Sys2Proof/Laws/Checksum.lean ====
section
/-!
SUPPORT. The engine and the checksum function agree: what the engine holds after the bytes were fed to it one by one is
what the loop of R120 computes.
-/

namespace Sys2Proof.Machine

@[simp] theorem wordHi_append (a b : Byte) : wordHi (a ++ b) = a := opcodeField_append a b

@[simp] theorem wordLo_append (a b : Byte) : wordLo (a ++ b) = b := operandField_append a b

@[simp] theorem wordHi_append_wordLo (w : Word) : wordHi w ++ wordLo w = w := opcodeField_append_operandField w

@[simp] theorem Engine.feedAll_nil (e : Engine) : e.feedAll [] = e := rfl

@[simp] theorem Engine.feedAll_cons (e : Engine) (b : Byte) (bs : List Byte) :
    e.feedAll (b :: bs) = (e.feed b).feedAll bs := rfl

theorem Engine.feedAll_append (e : Engine) (as bs : List Byte) :
    e.feedAll (as ++ bs) = (e.feedAll as).feedAll bs := List.foldl_append

/-- In `RUN` a byte is shifted in. -/
theorem Engine.feed_run {e : Engine} (b : Byte) (h : e.ckState = .run) :
    e.feed b = Engine.shifts 8 { e with r3 := b } := by
  simp [Engine.feed, h]

/-- Two engines that differ at most in `R4`. -/
abbrev Engine.Agree (e f : Engine) : Prop := e.ckState = f.ckState ∧ e.r1 = f.r1 ∧ e.r2 = f.r2 ∧ e.r3 = f.r3

/-- Engines that differ at most in `R4` shift alike. -/
theorem Engine.shift_agree {e f : Engine} (h : Engine.Agree e f) : Engine.Agree e.shift f.shift := by
  obtain ⟨h0, h1, h2, h3⟩ := h
  unfold Engine.shift
  rw [h1, h2, h3]
  cases f.r1.msb <;> exact ⟨h0, rfl, rfl, rfl⟩

theorem Engine.shifts_agree (n : Nat) {e f : Engine} (h : Engine.Agree e f) :
    Engine.Agree (Engine.shifts n e) (Engine.shifts n f) := by
  induction n generalizing e f with
  | zero => exact h
  | succ n ih => exact ih (Engine.shift_agree h)

theorem Engine.shift_run {e : Engine} (h : e.ckState = .run) : e.shift.ckState = .run := by
  unfold Engine.shift
  split <;> exact h

theorem Engine.shifts_run (n : Nat) {e : Engine} (h : e.ckState = .run) : (Engine.shifts n e).ckState = .run := by
  induction n generalizing e with
  | zero => exact h
  | succ n ih => exact ih (Engine.shift_run h)

/-- Feeding bytes in `RUN` stays in `RUN`. -/
theorem Engine.feedAll_run {e : Engine} (bs : List Byte) (h : e.ckState = .run) : (e.feedAll bs).ckState = .run := by
  induction bs generalizing e with
  | nil => exact h
  | cons b bs ih => exact ih (by rw [Engine.feed_run b h]; exact Engine.shifts_run 8 h)

/-- The loop of R120 is the engine in `RUN`, fed the remaining bytes. -/
theorem checksumLoop_eq {e : Engine} (bs : List Byte) (h : e.ckState = .run) :
    checksumLoop e.r1 e.r2 bs = (e.feedAll bs).r1 ++ (e.feedAll bs).r2 := by
  induction bs generalizing e with
  | nil => rfl
  | cons b bs ih =>
    obtain ⟨-, h1, h2, -⟩ := Engine.shifts_agree 8
      (e := { ckState := .run, r1 := e.r1, r2 := e.r2, r3 := b, r4 := 0x00#8 }) (f := { e with r3 := b })
      ⟨h.symm, rfl, rfl, rfl⟩
    rw [checksumLoop, Engine.feedAll_cons, Engine.feed_run b h, h1, h2]
    exact ih (Engine.shifts_run 8 h)

/-- The checksum of at least two bytes is what a cleared engine holds after they were fed to it. -/
theorem checksum_eq_feedAll (e : Engine) {bs : List Byte} (h : 2 ≤ bs.length) :
    checksum bs = some ((e.clear.feedAll bs).r1 ++ (e.clear.feedAll bs).r2) := by
  match bs with
  | b0 :: b1 :: rest =>
    exact congrArg some (checksumLoop_eq (e := { e with ckState := .run, r1 := b0, r2 := b1 }) rest rfl)
  | [_] => simp at h
  | [] => simp at h

end Sys2Proof.Machine
end

