-- ==== Sys2Proof/Laws/Memory.lean ====
section
/-!
SUPPORT. The laws of the byte stores: a read after a write, and the canonical form and the size that a write keeps.
-/

namespace Sys2Proof.Machine

@[simp] theorem Memory.read_nil (a : Nat) : Memory.read [] a = 0x00#8 := rfl

theorem Memory.wfFrom_mono {lo lo' : Nat} {m : Memory} (hle : lo ≤ lo') (h : Memory.wfFrom lo' m = true) :
    Memory.wfFrom lo m = true := by
  cases m with
  | nil => rfl
  | cons cell rest =>
    obtain ⟨x, c⟩ := cell
    simp only [Memory.wfFrom, Bool.and_eq_true, decide_eq_true_eq] at h ⊢
    exact ⟨⟨by omega, h.1.2⟩, h.2⟩

/-- A store whose indices all lie above `a` reads its reset contents at `a`. -/
theorem Memory.read_of_wfFrom {lo a : Nat} {m : Memory} (hlt : a < lo) (h : Memory.wfFrom lo m = true) :
    Memory.read m a = 0x00#8 := by
  induction m generalizing lo with
  | nil => rfl
  | cons cell rest ih =>
    obtain ⟨x, c⟩ := cell
    simp only [Memory.wfFrom, Bool.and_eq_true, decide_eq_true_eq] at h
    rw [Memory.read, if_neg (by omega)]
    exact ih (by omega) h.2

theorem Memory.wfFrom_consCell {lo a : Nat} {m : Memory} (b : Byte) (hlo : lo ≤ a)
    (h : Memory.wfFrom (a + 1) m = true) : Memory.wfFrom lo (Memory.consCell a b m) = true := by
  unfold Memory.consCell
  split
  · exact Memory.wfFrom_mono (by omega) h
  · rename_i hb
    simp only [Memory.wfFrom, Bool.and_eq_true, decide_eq_true_eq]
    exact ⟨⟨hlo, hb⟩, h⟩

theorem Memory.wfFrom_write {lo a : Nat} {m : Memory} (b : Byte) (hlo : lo ≤ a) (h : Memory.wfFrom lo m = true) :
    Memory.wfFrom lo (Memory.write m a b) = true := by
  induction m generalizing lo with
  | nil => exact Memory.wfFrom_consCell b hlo rfl
  | cons cell rest ih =>
    obtain ⟨x, c⟩ := cell
    have hc := h
    simp only [Memory.wfFrom, Bool.and_eq_true, decide_eq_true_eq] at h
    rw [Memory.write]
    split
    · refine Memory.wfFrom_consCell b hlo ?_
      simp only [Memory.wfFrom, Bool.and_eq_true, decide_eq_true_eq]
      exact ⟨⟨by omega, h.1.2⟩, h.2⟩
    · split
      · rename_i _ hax
        subst hax
        exact Memory.wfFrom_consCell b hlo h.2
      · simp only [Memory.wfFrom, Bool.and_eq_true, decide_eq_true_eq]
        exact ⟨h.1, ih (by omega) h.2⟩

/-- A write keeps the canonical form. -/
theorem Memory.wf_write {m : Memory} (a : Nat) (b : Byte) (h : Memory.wf m = true) :
    Memory.wf (Memory.write m a b) = true :=
  Memory.wfFrom_write b (Nat.zero_le a) h

theorem Memory.below_consCell {n a : Nat} {m : Memory} (b : Byte) (ha : a < n) (h : Memory.below n m = true) :
    Memory.below n (Memory.consCell a b m) = true := by
  unfold Memory.consCell
  split
  · exact h
  · simpa [Memory.below, ha] using h

/-- A write inside the store keeps every listed index inside it. -/
theorem Memory.below_write {n a : Nat} {m : Memory} (b : Byte) (ha : a < n) (h : Memory.below n m = true) :
    Memory.below n (Memory.write m a b) = true := by
  induction m with
  | nil => exact Memory.below_consCell b ha h
  | cons cell rest ih =>
    obtain ⟨x, c⟩ := cell
    have hr : Memory.below n rest = true := by
      simp only [Memory.below, List.all_cons, Bool.and_eq_true] at h ⊢
      exact h.2
    rw [Memory.write]
    split
    · exact Memory.below_consCell b ha h
    · split
      · exact Memory.below_consCell b ha hr
      · have := ih hr
        simp only [Memory.below, List.all_cons, Bool.and_eq_true] at h this ⊢
        exact ⟨h.1, this⟩

theorem Memory.read_consCell {a x : Nat} {m : Memory} (b : Byte) (h : Memory.wfFrom (a + 1) m = true) :
    Memory.read (Memory.consCell a b m) x = if a = x then b else Memory.read m x := by
  unfold Memory.consCell
  split
  · rename_i hb
    split
    · rename_i hax
      rw [hb]
      exact Memory.read_of_wfFrom (by omega) h
    · rfl
  · rfl

theorem Memory.read_write_from {lo a x : Nat} {m : Memory} (b : Byte) (h : Memory.wfFrom lo m = true) :
    Memory.read (Memory.write m a b) x = if a = x then b else Memory.read m x := by
  induction m generalizing lo with
  | nil => exact Memory.read_consCell b rfl
  | cons cell rest ih =>
    obtain ⟨y, c⟩ := cell
    have hc := h
    simp only [Memory.wfFrom, Bool.and_eq_true, decide_eq_true_eq] at h
    rw [Memory.write]
    split
    · refine Memory.read_consCell b ?_
      simp only [Memory.wfFrom, Bool.and_eq_true, decide_eq_true_eq]
      exact ⟨⟨by omega, h.1.2⟩, h.2⟩
    · split
      · rename_i _ hay
        subst hay
        rw [Memory.read_consCell b h.2, Memory.read]
        split <;> rfl
      · rename_i hlt hne
        rw [Memory.read, Memory.read, ih h.2]
        split
        · rename_i hyx
          rw [if_neg (by omega)]
        · rfl

/-- What a read gives after a write: the byte written at its index, and every other byte as before. -/
theorem Memory.read_write {m : Memory} (a x : Nat) (b : Byte) (h : Memory.wf m = true) :
    Memory.read (Memory.write m a b) x = if a = x then b else Memory.read m x :=
  Memory.read_write_from b h

end Sys2Proof.Machine
end

