-- ==== Sys2Proof/Laws/State.lean ====
section
/-!
SUPPORT. What each named update does to each field of the state: one lemma per field per update, true by `rfl`.
-/

namespace Sys2Proof.Machine

@[simp] theorem recordFault_params (f : FaultKind) (w : Word) (s : State) : (recordFault f w s).params = s.params := rfl
@[simp] theorem recordFault_ckState (f : FaultKind) (w : Word) (s : State) : (recordFault f w s).ckState = s.ckState := rfl
@[simp] theorem recordFault_r1 (f : FaultKind) (w : Word) (s : State) : (recordFault f w s).r1 = s.r1 := rfl
@[simp] theorem recordFault_r2 (f : FaultKind) (w : Word) (s : State) : (recordFault f w s).r2 = s.r2 := rfl
@[simp] theorem recordFault_r3 (f : FaultKind) (w : Word) (s : State) : (recordFault f w s).r3 = s.r3 := rfl
@[simp] theorem recordFault_r4 (f : FaultKind) (w : Word) (s : State) : (recordFault f w s).r4 = s.r4 := rfl
@[simp] theorem recordFault_devId (f : FaultKind) (w : Word) (s : State) : (recordFault f w s).devId = s.devId := rfl
@[simp] theorem recordFault_encState (f : FaultKind) (w : Word) (s : State) : (recordFault f w s).encState = s.encState := rfl
@[simp] theorem recordFault_eCmd (f : FaultKind) (w : Word) (s : State) : (recordFault f w s).eCmd = s.eCmd := rfl
@[simp] theorem recordFault_pbuf (f : FaultKind) (w : Word) (s : State) : (recordFault f w s).pbuf = s.pbuf := rfl
@[simp] theorem recordFault_plen (f : FaultKind) (w : Word) (s : State) : (recordFault f w s).plen = s.plen := rfl
@[simp] theorem recordFault_eDev (f : FaultKind) (w : Word) (s : State) : (recordFault f w s).eDev = s.eDev := rfl
@[simp] theorem recordFault_eCkHi (f : FaultKind) (w : Word) (s : State) : (recordFault f w s).eCkHi = s.eCkHi := rfl
@[simp] theorem recordFault_eCkLo (f : FaultKind) (w : Word) (s : State) : (recordFault f w s).eCkLo = s.eCkLo := rfl
@[simp] theorem recordFault_ePos (f : FaultKind) (w : Word) (s : State) : (recordFault f w s).ePos = s.ePos := rfl
@[simp] theorem recordFault_pollPend (f : FaultKind) (w : Word) (s : State) : (recordFault f w s).pollPend = s.pollPend := rfl
@[simp] theorem recordFault_capState (f : FaultKind) (w : Word) (s : State) : (recordFault f w s).capState = s.capState := rfl
@[simp] theorem recordFault_iter (f : FaultKind) (w : Word) (s : State) : (recordFault f w s).iter = s.iter := rfl
@[simp] theorem recordFault_widx (f : FaultKind) (w : Word) (s : State) : (recordFault f w s).widx = s.widx := rfl
@[simp] theorem recordFault_buf (f : FaultKind) (w : Word) (s : State) : (recordFault f w s).buf = s.buf := rfl
@[simp] theorem recordFault_rxq (f : FaultKind) (w : Word) (s : State) : (recordFault f w s).rxq = s.rxq := rfl
@[simp] theorem recordFault_err (f : FaultKind) (w : Word) (s : State) : (recordFault f w s).err = s.err ||| errBit f := rfl
@[simp] theorem recordFault_firstErr (f : FaultKind) (w : Word) (s : State) : (recordFault f w s).firstErr = if s.err = 0x00#8 then faultCode f else s.firstErr := rfl
@[simp] theorem recordFault_errCmd (f : FaultKind) (w : Word) (s : State) : (recordFault f w s).errCmd = if s.err = 0x00#8 then w else s.errCmd := rfl
@[simp] theorem recordFault_response (f : FaultKind) (w : Word) (s : State) : (recordFault f w s).response = s.response := rfl
@[simp] theorem recordFault_raised (f : FaultKind) (w : Word) (s : State) : (recordFault f w s).raised = some f := rfl
@[simp] theorem recordFault_txHistory (f : FaultKind) (w : Word) (s : State) : (recordFault f w s).txHistory = s.txHistory := rfl
@[simp] theorem recordFault_agenda (f : FaultKind) (w : Word) (s : State) : (recordFault f w s).agenda = s.agenda := rfl

@[simp] theorem receiveByte_params (b : Byte) (s : State) : (receiveByte b s).params = s.params := rfl
@[simp] theorem receiveByte_ckState (b : Byte) (s : State) : (receiveByte b s).ckState = s.ckState := rfl
@[simp] theorem receiveByte_r1 (b : Byte) (s : State) : (receiveByte b s).r1 = s.r1 := rfl
@[simp] theorem receiveByte_r2 (b : Byte) (s : State) : (receiveByte b s).r2 = s.r2 := rfl
@[simp] theorem receiveByte_r3 (b : Byte) (s : State) : (receiveByte b s).r3 = s.r3 := rfl
@[simp] theorem receiveByte_r4 (b : Byte) (s : State) : (receiveByte b s).r4 = s.r4 := rfl
@[simp] theorem receiveByte_devId (b : Byte) (s : State) : (receiveByte b s).devId = s.devId := rfl
@[simp] theorem receiveByte_encState (b : Byte) (s : State) : (receiveByte b s).encState = s.encState := rfl
@[simp] theorem receiveByte_eCmd (b : Byte) (s : State) : (receiveByte b s).eCmd = s.eCmd := rfl
@[simp] theorem receiveByte_pbuf (b : Byte) (s : State) : (receiveByte b s).pbuf = s.pbuf := rfl
@[simp] theorem receiveByte_plen (b : Byte) (s : State) : (receiveByte b s).plen = s.plen := rfl
@[simp] theorem receiveByte_eDev (b : Byte) (s : State) : (receiveByte b s).eDev = s.eDev := rfl
@[simp] theorem receiveByte_eCkHi (b : Byte) (s : State) : (receiveByte b s).eCkHi = s.eCkHi := rfl
@[simp] theorem receiveByte_eCkLo (b : Byte) (s : State) : (receiveByte b s).eCkLo = s.eCkLo := rfl
@[simp] theorem receiveByte_ePos (b : Byte) (s : State) : (receiveByte b s).ePos = s.ePos := rfl
@[simp] theorem receiveByte_pollPend (b : Byte) (s : State) : (receiveByte b s).pollPend = s.pollPend := rfl
@[simp] theorem receiveByte_capState (b : Byte) (s : State) : (receiveByte b s).capState = s.capState := rfl
@[simp] theorem receiveByte_iter (b : Byte) (s : State) : (receiveByte b s).iter = s.iter := rfl
@[simp] theorem receiveByte_widx (b : Byte) (s : State) : (receiveByte b s).widx = s.widx := rfl
@[simp] theorem receiveByte_buf (b : Byte) (s : State) : (receiveByte b s).buf = s.buf := rfl
@[simp] theorem receiveByte_rxq (b : Byte) (s : State) : (receiveByte b s).rxq = if s.rxq.length < s.params.rxDepth then s.rxq ++ [b] else s.rxq := rfl
@[simp] theorem receiveByte_err (b : Byte) (s : State) : (receiveByte b s).err = s.err := rfl
@[simp] theorem receiveByte_firstErr (b : Byte) (s : State) : (receiveByte b s).firstErr = s.firstErr := rfl
@[simp] theorem receiveByte_errCmd (b : Byte) (s : State) : (receiveByte b s).errCmd = s.errCmd := rfl
@[simp] theorem receiveByte_response (b : Byte) (s : State) : (receiveByte b s).response = s.response := rfl
@[simp] theorem receiveByte_raised (b : Byte) (s : State) : (receiveByte b s).raised = s.raised := rfl
@[simp] theorem receiveByte_txHistory (b : Byte) (s : State) : (receiveByte b s).txHistory = s.txHistory := rfl
@[simp] theorem receiveByte_agenda (b : Byte) (s : State) : (receiveByte b s).agenda = s.agenda := rfl

@[simp] theorem startCapture_params (s : State) : (startCapture s).params = s.params := rfl
@[simp] theorem startCapture_ckState (s : State) : (startCapture s).ckState = s.ckState := rfl
@[simp] theorem startCapture_r1 (s : State) : (startCapture s).r1 = s.r1 := rfl
@[simp] theorem startCapture_r2 (s : State) : (startCapture s).r2 = s.r2 := rfl
@[simp] theorem startCapture_r3 (s : State) : (startCapture s).r3 = s.r3 := rfl
@[simp] theorem startCapture_r4 (s : State) : (startCapture s).r4 = s.r4 := rfl
@[simp] theorem startCapture_devId (s : State) : (startCapture s).devId = s.devId := rfl
@[simp] theorem startCapture_encState (s : State) : (startCapture s).encState = s.encState := rfl
@[simp] theorem startCapture_eCmd (s : State) : (startCapture s).eCmd = s.eCmd := rfl
@[simp] theorem startCapture_pbuf (s : State) : (startCapture s).pbuf = s.pbuf := rfl
@[simp] theorem startCapture_plen (s : State) : (startCapture s).plen = s.plen := rfl
@[simp] theorem startCapture_eDev (s : State) : (startCapture s).eDev = s.eDev := rfl
@[simp] theorem startCapture_eCkHi (s : State) : (startCapture s).eCkHi = s.eCkHi := rfl
@[simp] theorem startCapture_eCkLo (s : State) : (startCapture s).eCkLo = s.eCkLo := rfl
@[simp] theorem startCapture_ePos (s : State) : (startCapture s).ePos = s.ePos := rfl
@[simp] theorem startCapture_pollPend (s : State) : (startCapture s).pollPend = s.pollPend := rfl
@[simp] theorem startCapture_capState (s : State) : (startCapture s).capState = .check := rfl
@[simp] theorem startCapture_iter (s : State) : (startCapture s).iter = 0#9 := rfl
@[simp] theorem startCapture_widx (s : State) : (startCapture s).widx = 0#9 := rfl
@[simp] theorem startCapture_buf (s : State) : (startCapture s).buf = s.buf := rfl
@[simp] theorem startCapture_rxq (s : State) : (startCapture s).rxq = s.rxq := rfl
@[simp] theorem startCapture_err (s : State) : (startCapture s).err = s.err := rfl
@[simp] theorem startCapture_firstErr (s : State) : (startCapture s).firstErr = s.firstErr := rfl
@[simp] theorem startCapture_errCmd (s : State) : (startCapture s).errCmd = s.errCmd := rfl
@[simp] theorem startCapture_response (s : State) : (startCapture s).response = s.response := rfl
@[simp] theorem startCapture_raised (s : State) : (startCapture s).raised = s.raised := rfl
@[simp] theorem startCapture_txHistory (s : State) : (startCapture s).txHistory = s.txHistory := rfl
@[simp] theorem startCapture_agenda (s : State) : (startCapture s).agenda = s.agenda := rfl

@[simp] theorem endIteration_params (s : State) : (endIteration s).params = s.params := rfl
@[simp] theorem endIteration_ckState (s : State) : (endIteration s).ckState = s.ckState := rfl
@[simp] theorem endIteration_r1 (s : State) : (endIteration s).r1 = s.r1 := rfl
@[simp] theorem endIteration_r2 (s : State) : (endIteration s).r2 = s.r2 := rfl
@[simp] theorem endIteration_r3 (s : State) : (endIteration s).r3 = s.r3 := rfl
@[simp] theorem endIteration_r4 (s : State) : (endIteration s).r4 = s.r4 := rfl
@[simp] theorem endIteration_devId (s : State) : (endIteration s).devId = s.devId := rfl
@[simp] theorem endIteration_encState (s : State) : (endIteration s).encState = s.encState := rfl
@[simp] theorem endIteration_eCmd (s : State) : (endIteration s).eCmd = s.eCmd := rfl
@[simp] theorem endIteration_pbuf (s : State) : (endIteration s).pbuf = s.pbuf := rfl
@[simp] theorem endIteration_plen (s : State) : (endIteration s).plen = s.plen := rfl
@[simp] theorem endIteration_eDev (s : State) : (endIteration s).eDev = s.eDev := rfl
@[simp] theorem endIteration_eCkHi (s : State) : (endIteration s).eCkHi = s.eCkHi := rfl
@[simp] theorem endIteration_eCkLo (s : State) : (endIteration s).eCkLo = s.eCkLo := rfl
@[simp] theorem endIteration_ePos (s : State) : (endIteration s).ePos = s.ePos := rfl
@[simp] theorem endIteration_pollPend (s : State) : (endIteration s).pollPend = s.pollPend := rfl
@[simp] theorem endIteration_capState (s : State) : (endIteration s).capState = if (s.iter + 1#9).toNat = capacity then .done else .check := rfl
@[simp] theorem endIteration_iter (s : State) : (endIteration s).iter = s.iter + 1#9 := rfl
@[simp] theorem endIteration_widx (s : State) : (endIteration s).widx = s.widx := rfl
@[simp] theorem endIteration_buf (s : State) : (endIteration s).buf = s.buf := rfl
@[simp] theorem endIteration_rxq (s : State) : (endIteration s).rxq = s.rxq := rfl
@[simp] theorem endIteration_err (s : State) : (endIteration s).err = s.err := rfl
@[simp] theorem endIteration_firstErr (s : State) : (endIteration s).firstErr = s.firstErr := rfl
@[simp] theorem endIteration_errCmd (s : State) : (endIteration s).errCmd = s.errCmd := rfl
@[simp] theorem endIteration_response (s : State) : (endIteration s).response = s.response := rfl
@[simp] theorem endIteration_raised (s : State) : (endIteration s).raised = s.raised := rfl
@[simp] theorem endIteration_txHistory (s : State) : (endIteration s).txHistory = s.txHistory := rfl
@[simp] theorem endIteration_agenda (s : State) : (endIteration s).agenda = s.agenda := rfl

@[simp] theorem setEngine_params (e : Engine) (s : State) : (setEngine e s).params = s.params := rfl
@[simp] theorem setEngine_ckState (e : Engine) (s : State) : (setEngine e s).ckState = e.ckState := rfl
@[simp] theorem setEngine_r1 (e : Engine) (s : State) : (setEngine e s).r1 = e.r1 := rfl
@[simp] theorem setEngine_r2 (e : Engine) (s : State) : (setEngine e s).r2 = e.r2 := rfl
@[simp] theorem setEngine_r3 (e : Engine) (s : State) : (setEngine e s).r3 = e.r3 := rfl
@[simp] theorem setEngine_r4 (e : Engine) (s : State) : (setEngine e s).r4 = e.r4 := rfl
@[simp] theorem setEngine_devId (e : Engine) (s : State) : (setEngine e s).devId = s.devId := rfl
@[simp] theorem setEngine_encState (e : Engine) (s : State) : (setEngine e s).encState = s.encState := rfl
@[simp] theorem setEngine_eCmd (e : Engine) (s : State) : (setEngine e s).eCmd = s.eCmd := rfl
@[simp] theorem setEngine_pbuf (e : Engine) (s : State) : (setEngine e s).pbuf = s.pbuf := rfl
@[simp] theorem setEngine_plen (e : Engine) (s : State) : (setEngine e s).plen = s.plen := rfl
@[simp] theorem setEngine_eDev (e : Engine) (s : State) : (setEngine e s).eDev = s.eDev := rfl
@[simp] theorem setEngine_eCkHi (e : Engine) (s : State) : (setEngine e s).eCkHi = s.eCkHi := rfl
@[simp] theorem setEngine_eCkLo (e : Engine) (s : State) : (setEngine e s).eCkLo = s.eCkLo := rfl
@[simp] theorem setEngine_ePos (e : Engine) (s : State) : (setEngine e s).ePos = s.ePos := rfl
@[simp] theorem setEngine_pollPend (e : Engine) (s : State) : (setEngine e s).pollPend = s.pollPend := rfl
@[simp] theorem setEngine_capState (e : Engine) (s : State) : (setEngine e s).capState = s.capState := rfl
@[simp] theorem setEngine_iter (e : Engine) (s : State) : (setEngine e s).iter = s.iter := rfl
@[simp] theorem setEngine_widx (e : Engine) (s : State) : (setEngine e s).widx = s.widx := rfl
@[simp] theorem setEngine_buf (e : Engine) (s : State) : (setEngine e s).buf = s.buf := rfl
@[simp] theorem setEngine_rxq (e : Engine) (s : State) : (setEngine e s).rxq = s.rxq := rfl
@[simp] theorem setEngine_err (e : Engine) (s : State) : (setEngine e s).err = s.err := rfl
@[simp] theorem setEngine_firstErr (e : Engine) (s : State) : (setEngine e s).firstErr = s.firstErr := rfl
@[simp] theorem setEngine_errCmd (e : Engine) (s : State) : (setEngine e s).errCmd = s.errCmd := rfl
@[simp] theorem setEngine_response (e : Engine) (s : State) : (setEngine e s).response = s.response := rfl
@[simp] theorem setEngine_raised (e : Engine) (s : State) : (setEngine e s).raised = s.raised := rfl
@[simp] theorem setEngine_txHistory (e : Engine) (s : State) : (setEngine e s).txHistory = s.txHistory := rfl
@[simp] theorem setEngine_agenda (e : Engine) (s : State) : (setEngine e s).agenda = s.agenda := rfl

@[simp] theorem startEmission_params (hi lo : Byte) (s : State) : (startEmission hi lo s).params = s.params := rfl
@[simp] theorem startEmission_ckState (hi lo : Byte) (s : State) : (startEmission hi lo s).ckState = s.ckState := rfl
@[simp] theorem startEmission_r1 (hi lo : Byte) (s : State) : (startEmission hi lo s).r1 = s.r1 := rfl
@[simp] theorem startEmission_r2 (hi lo : Byte) (s : State) : (startEmission hi lo s).r2 = s.r2 := rfl
@[simp] theorem startEmission_r3 (hi lo : Byte) (s : State) : (startEmission hi lo s).r3 = s.r3 := rfl
@[simp] theorem startEmission_r4 (hi lo : Byte) (s : State) : (startEmission hi lo s).r4 = s.r4 := rfl
@[simp] theorem startEmission_devId (hi lo : Byte) (s : State) : (startEmission hi lo s).devId = s.devId := rfl
@[simp] theorem startEmission_encState (hi lo : Byte) (s : State) : (startEmission hi lo s).encState = .emit := rfl
@[simp] theorem startEmission_eCmd (hi lo : Byte) (s : State) : (startEmission hi lo s).eCmd = s.eCmd := rfl
@[simp] theorem startEmission_pbuf (hi lo : Byte) (s : State) : (startEmission hi lo s).pbuf = s.pbuf := rfl
@[simp] theorem startEmission_plen (hi lo : Byte) (s : State) : (startEmission hi lo s).plen = s.plen := rfl
@[simp] theorem startEmission_eDev (hi lo : Byte) (s : State) : (startEmission hi lo s).eDev = s.devId := rfl
@[simp] theorem startEmission_eCkHi (hi lo : Byte) (s : State) : (startEmission hi lo s).eCkHi = hi := rfl
@[simp] theorem startEmission_eCkLo (hi lo : Byte) (s : State) : (startEmission hi lo s).eCkLo = lo := rfl
@[simp] theorem startEmission_ePos (hi lo : Byte) (s : State) : (startEmission hi lo s).ePos = 0#9 := rfl
@[simp] theorem startEmission_pollPend (hi lo : Byte) (s : State) : (startEmission hi lo s).pollPend = s.pollPend := rfl
@[simp] theorem startEmission_capState (hi lo : Byte) (s : State) : (startEmission hi lo s).capState = s.capState := rfl
@[simp] theorem startEmission_iter (hi lo : Byte) (s : State) : (startEmission hi lo s).iter = s.iter := rfl
@[simp] theorem startEmission_widx (hi lo : Byte) (s : State) : (startEmission hi lo s).widx = s.widx := rfl
@[simp] theorem startEmission_buf (hi lo : Byte) (s : State) : (startEmission hi lo s).buf = s.buf := rfl
@[simp] theorem startEmission_rxq (hi lo : Byte) (s : State) : (startEmission hi lo s).rxq = s.rxq := rfl
@[simp] theorem startEmission_err (hi lo : Byte) (s : State) : (startEmission hi lo s).err = s.err := rfl
@[simp] theorem startEmission_firstErr (hi lo : Byte) (s : State) : (startEmission hi lo s).firstErr = s.firstErr := rfl
@[simp] theorem startEmission_errCmd (hi lo : Byte) (s : State) : (startEmission hi lo s).errCmd = s.errCmd := rfl
@[simp] theorem startEmission_response (hi lo : Byte) (s : State) : (startEmission hi lo s).response = s.response := rfl
@[simp] theorem startEmission_raised (hi lo : Byte) (s : State) : (startEmission hi lo s).raised = s.raised := rfl
@[simp] theorem startEmission_txHistory (hi lo : Byte) (s : State) : (startEmission hi lo s).txHistory = s.txHistory := rfl
@[simp] theorem startEmission_agenda (hi lo : Byte) (s : State) : (startEmission hi lo s).agenda = s.agenda := rfl

@[simp] theorem openPorts_params (s : State) : (openPorts s).params = s.params := rfl
@[simp] theorem openPorts_ckState (s : State) : (openPorts s).ckState = s.ckState := rfl
@[simp] theorem openPorts_r1 (s : State) : (openPorts s).r1 = s.r1 := rfl
@[simp] theorem openPorts_r2 (s : State) : (openPorts s).r2 = s.r2 := rfl
@[simp] theorem openPorts_r3 (s : State) : (openPorts s).r3 = s.r3 := rfl
@[simp] theorem openPorts_r4 (s : State) : (openPorts s).r4 = s.r4 := rfl
@[simp] theorem openPorts_devId (s : State) : (openPorts s).devId = s.devId := rfl
@[simp] theorem openPorts_encState (s : State) : (openPorts s).encState = s.encState := rfl
@[simp] theorem openPorts_eCmd (s : State) : (openPorts s).eCmd = s.eCmd := rfl
@[simp] theorem openPorts_pbuf (s : State) : (openPorts s).pbuf = s.pbuf := rfl
@[simp] theorem openPorts_plen (s : State) : (openPorts s).plen = s.plen := rfl
@[simp] theorem openPorts_eDev (s : State) : (openPorts s).eDev = s.eDev := rfl
@[simp] theorem openPorts_eCkHi (s : State) : (openPorts s).eCkHi = s.eCkHi := rfl
@[simp] theorem openPorts_eCkLo (s : State) : (openPorts s).eCkLo = s.eCkLo := rfl
@[simp] theorem openPorts_ePos (s : State) : (openPorts s).ePos = s.ePos := rfl
@[simp] theorem openPorts_pollPend (s : State) : (openPorts s).pollPend = s.pollPend := rfl
@[simp] theorem openPorts_capState (s : State) : (openPorts s).capState = s.capState := rfl
@[simp] theorem openPorts_iter (s : State) : (openPorts s).iter = s.iter := rfl
@[simp] theorem openPorts_widx (s : State) : (openPorts s).widx = s.widx := rfl
@[simp] theorem openPorts_buf (s : State) : (openPorts s).buf = s.buf := rfl
@[simp] theorem openPorts_rxq (s : State) : (openPorts s).rxq = s.rxq := rfl
@[simp] theorem openPorts_err (s : State) : (openPorts s).err = s.err := rfl
@[simp] theorem openPorts_firstErr (s : State) : (openPorts s).firstErr = s.firstErr := rfl
@[simp] theorem openPorts_errCmd (s : State) : (openPorts s).errCmd = s.errCmd := rfl
@[simp] theorem openPorts_response (s : State) : (openPorts s).response = none := rfl
@[simp] theorem openPorts_raised (s : State) : (openPorts s).raised = none := rfl
@[simp] theorem openPorts_txHistory (s : State) : (openPorts s).txHistory = s.txHistory := rfl
@[simp] theorem openPorts_agenda (s : State) : (openPorts s).agenda = s.agenda := rfl

@[simp] theorem emitByte_params (v : Byte) (s : State) : (emitByte v s).params = s.params := rfl
@[simp] theorem emitByte_ckState (v : Byte) (s : State) : (emitByte v s).ckState = s.ckState := rfl
@[simp] theorem emitByte_r1 (v : Byte) (s : State) : (emitByte v s).r1 = s.r1 := rfl
@[simp] theorem emitByte_r2 (v : Byte) (s : State) : (emitByte v s).r2 = s.r2 := rfl
@[simp] theorem emitByte_r3 (v : Byte) (s : State) : (emitByte v s).r3 = s.r3 := rfl
@[simp] theorem emitByte_r4 (v : Byte) (s : State) : (emitByte v s).r4 = s.r4 := rfl
@[simp] theorem emitByte_devId (v : Byte) (s : State) : (emitByte v s).devId = s.devId := rfl
@[simp] theorem emitByte_encState (v : Byte) (s : State) : (emitByte v s).encState = s.encState := rfl
@[simp] theorem emitByte_eCmd (v : Byte) (s : State) : (emitByte v s).eCmd = s.eCmd := rfl
@[simp] theorem emitByte_pbuf (v : Byte) (s : State) : (emitByte v s).pbuf = s.pbuf := rfl
@[simp] theorem emitByte_plen (v : Byte) (s : State) : (emitByte v s).plen = s.plen := rfl
@[simp] theorem emitByte_eDev (v : Byte) (s : State) : (emitByte v s).eDev = s.eDev := rfl
@[simp] theorem emitByte_eCkHi (v : Byte) (s : State) : (emitByte v s).eCkHi = s.eCkHi := rfl
@[simp] theorem emitByte_eCkLo (v : Byte) (s : State) : (emitByte v s).eCkLo = s.eCkLo := rfl
@[simp] theorem emitByte_ePos (v : Byte) (s : State) : (emitByte v s).ePos = s.ePos + 1#9 := rfl
@[simp] theorem emitByte_pollPend (v : Byte) (s : State) : (emitByte v s).pollPend = s.pollPend := rfl
@[simp] theorem emitByte_capState (v : Byte) (s : State) : (emitByte v s).capState = s.capState := rfl
@[simp] theorem emitByte_iter (v : Byte) (s : State) : (emitByte v s).iter = s.iter := rfl
@[simp] theorem emitByte_widx (v : Byte) (s : State) : (emitByte v s).widx = s.widx := rfl
@[simp] theorem emitByte_buf (v : Byte) (s : State) : (emitByte v s).buf = s.buf := rfl
@[simp] theorem emitByte_rxq (v : Byte) (s : State) : (emitByte v s).rxq = s.rxq := rfl
@[simp] theorem emitByte_err (v : Byte) (s : State) : (emitByte v s).err = s.err := rfl
@[simp] theorem emitByte_firstErr (v : Byte) (s : State) : (emitByte v s).firstErr = s.firstErr := rfl
@[simp] theorem emitByte_errCmd (v : Byte) (s : State) : (emitByte v s).errCmd = s.errCmd := rfl
@[simp] theorem emitByte_response (v : Byte) (s : State) : (emitByte v s).response = s.response := rfl
@[simp] theorem emitByte_raised (v : Byte) (s : State) : (emitByte v s).raised = s.raised := rfl
@[simp] theorem emitByte_txHistory (v : Byte) (s : State) : (emitByte v s).txHistory = s.txHistory ++ [v] := rfl
@[simp] theorem emitByte_agenda (v : Byte) (s : State) : (emitByte v s).agenda = s.agenda := rfl

@[simp] theorem storeByte_params (b : Byte) (rest : List Byte) (s : State) : (storeByte b rest s).params = s.params := rfl
@[simp] theorem storeByte_ckState (b : Byte) (rest : List Byte) (s : State) : (storeByte b rest s).ckState = s.ckState := rfl
@[simp] theorem storeByte_r1 (b : Byte) (rest : List Byte) (s : State) : (storeByte b rest s).r1 = s.r1 := rfl
@[simp] theorem storeByte_r2 (b : Byte) (rest : List Byte) (s : State) : (storeByte b rest s).r2 = s.r2 := rfl
@[simp] theorem storeByte_r3 (b : Byte) (rest : List Byte) (s : State) : (storeByte b rest s).r3 = s.r3 := rfl
@[simp] theorem storeByte_r4 (b : Byte) (rest : List Byte) (s : State) : (storeByte b rest s).r4 = s.r4 := rfl
@[simp] theorem storeByte_devId (b : Byte) (rest : List Byte) (s : State) : (storeByte b rest s).devId = s.devId := rfl
@[simp] theorem storeByte_encState (b : Byte) (rest : List Byte) (s : State) : (storeByte b rest s).encState = s.encState := rfl
@[simp] theorem storeByte_eCmd (b : Byte) (rest : List Byte) (s : State) : (storeByte b rest s).eCmd = s.eCmd := rfl
@[simp] theorem storeByte_pbuf (b : Byte) (rest : List Byte) (s : State) : (storeByte b rest s).pbuf = s.pbuf := rfl
@[simp] theorem storeByte_plen (b : Byte) (rest : List Byte) (s : State) : (storeByte b rest s).plen = s.plen := rfl
@[simp] theorem storeByte_eDev (b : Byte) (rest : List Byte) (s : State) : (storeByte b rest s).eDev = s.eDev := rfl
@[simp] theorem storeByte_eCkHi (b : Byte) (rest : List Byte) (s : State) : (storeByte b rest s).eCkHi = s.eCkHi := rfl
@[simp] theorem storeByte_eCkLo (b : Byte) (rest : List Byte) (s : State) : (storeByte b rest s).eCkLo = s.eCkLo := rfl
@[simp] theorem storeByte_ePos (b : Byte) (rest : List Byte) (s : State) : (storeByte b rest s).ePos = s.ePos := rfl
@[simp] theorem storeByte_pollPend (b : Byte) (rest : List Byte) (s : State) : (storeByte b rest s).pollPend = s.pollPend := rfl
@[simp] theorem storeByte_capState (b : Byte) (rest : List Byte) (s : State) : (storeByte b rest s).capState = .wait := rfl
@[simp] theorem storeByte_iter (b : Byte) (rest : List Byte) (s : State) : (storeByte b rest s).iter = s.iter := rfl
@[simp] theorem storeByte_widx (b : Byte) (rest : List Byte) (s : State) : (storeByte b rest s).widx = s.widx + 1#9 := rfl
@[simp] theorem storeByte_buf (b : Byte) (rest : List Byte) (s : State) : (storeByte b rest s).buf = Memory.write s.buf s.widx.toNat b := rfl
@[simp] theorem storeByte_rxq (b : Byte) (rest : List Byte) (s : State) : (storeByte b rest s).rxq = rest := rfl
@[simp] theorem storeByte_err (b : Byte) (rest : List Byte) (s : State) : (storeByte b rest s).err = s.err := rfl
@[simp] theorem storeByte_firstErr (b : Byte) (rest : List Byte) (s : State) : (storeByte b rest s).firstErr = s.firstErr := rfl
@[simp] theorem storeByte_errCmd (b : Byte) (rest : List Byte) (s : State) : (storeByte b rest s).errCmd = s.errCmd := rfl
@[simp] theorem storeByte_response (b : Byte) (rest : List Byte) (s : State) : (storeByte b rest s).response = s.response := rfl
@[simp] theorem storeByte_raised (b : Byte) (rest : List Byte) (s : State) : (storeByte b rest s).raised = s.raised := rfl
@[simp] theorem storeByte_txHistory (b : Byte) (rest : List Byte) (s : State) : (storeByte b rest s).txHistory = s.txHistory := rfl
@[simp] theorem storeByte_agenda (b : Byte) (rest : List Byte) (s : State) : (storeByte b rest s).agenda = s.agenda := rfl

@[simp] theorem resetBlock_params (s : State) : (resetBlock s).params = s.params := rfl
@[simp] theorem resetBlock_ckState (s : State) : (resetBlock s).ckState = .empty := rfl
@[simp] theorem resetBlock_r1 (s : State) : (resetBlock s).r1 = 0x00#8 := rfl
@[simp] theorem resetBlock_r2 (s : State) : (resetBlock s).r2 = 0x00#8 := rfl
@[simp] theorem resetBlock_r3 (s : State) : (resetBlock s).r3 = 0x00#8 := rfl
@[simp] theorem resetBlock_r4 (s : State) : (resetBlock s).r4 = 0x00#8 := rfl
@[simp] theorem resetBlock_devId (s : State) : (resetBlock s).devId = s.params.devIdReset := rfl
@[simp] theorem resetBlock_encState (s : State) : (resetBlock s).encState = .idle := rfl
@[simp] theorem resetBlock_eCmd (s : State) : (resetBlock s).eCmd = 0x00#8 := rfl
@[simp] theorem resetBlock_pbuf (s : State) : (resetBlock s).pbuf = [] := rfl
@[simp] theorem resetBlock_plen (s : State) : (resetBlock s).plen = 0x00#8 := rfl
@[simp] theorem resetBlock_eDev (s : State) : (resetBlock s).eDev = 0x00#8 := rfl
@[simp] theorem resetBlock_eCkHi (s : State) : (resetBlock s).eCkHi = 0x00#8 := rfl
@[simp] theorem resetBlock_eCkLo (s : State) : (resetBlock s).eCkLo = 0x00#8 := rfl
@[simp] theorem resetBlock_ePos (s : State) : (resetBlock s).ePos = 0#9 := rfl
@[simp] theorem resetBlock_pollPend (s : State) : (resetBlock s).pollPend = false := rfl
@[simp] theorem resetBlock_capState (s : State) : (resetBlock s).capState = .cIdle := rfl
@[simp] theorem resetBlock_iter (s : State) : (resetBlock s).iter = 0#9 := rfl
@[simp] theorem resetBlock_widx (s : State) : (resetBlock s).widx = 0#9 := rfl
@[simp] theorem resetBlock_buf (s : State) : (resetBlock s).buf = [] := rfl
@[simp] theorem resetBlock_rxq (s : State) : (resetBlock s).rxq = [] := rfl
@[simp] theorem resetBlock_err (s : State) : (resetBlock s).err = 0x00#8 := rfl
@[simp] theorem resetBlock_firstErr (s : State) : (resetBlock s).firstErr = 0x00#8 := rfl
@[simp] theorem resetBlock_errCmd (s : State) : (resetBlock s).errCmd = 0x0000#16 := rfl
@[simp] theorem resetBlock_response (s : State) : (resetBlock s).response = s.response := rfl
@[simp] theorem resetBlock_raised (s : State) : (resetBlock s).raised = s.raised := rfl
@[simp] theorem resetBlock_txHistory (s : State) : (resetBlock s).txHistory = s.txHistory := rfl
@[simp] theorem resetBlock_agenda (s : State) : (resetBlock s).agenda = s.agenda := rfl

end Sys2Proof.Machine
end

