-- ==== Sys2Proof/Laws/Ops.lean ====
section
/-!
SUPPORT. One lemma per shared operation that says everything it can do, for proofs to cite instead of unfolding it.
-/

namespace Sys2Proof.Machine

theorem respond_next {v : Byte} {s t : State} (h : respond v s = .next t) : t = { s with response := some v } := by
  cases h
  rfl

/-- Taking a fault always answers a next state: the record, and `0x00` on the port of a response-class command. -/
theorem raise_eq (i : Instr) (f : FaultKind) (s : State) :
    raise i f s =
      .next { recordFault f (commandWord i) s with
        response := if responds i = true then some 0x00#8 else s.response } := by
  cases h : responds i <;> simp only [raise, h] <;> rfl

/-- The end of an emission with a capture pending (R150). -/
theorem endEmission_of_pend {s : State} (h : s.pollPend = true) :
    endEmission s = startCapture { s with encState := .idle, pollPend := false } := by
  simp [endEmission, h]

/-- The end of an emission with no capture pending (R150). -/
theorem endEmission_of_not_pend {s : State} (h : s.pollPend = false) : endEmission s = { s with encState := .idle } := by
  simp [endEmission, h]

/-- Everything `TX_ACCEPT` can do. -/
theorem txAccept_next {s t : State} (h : txAccept s = .next t) :
    (s.encState ≠ .emit ∧ t = s) ∨
    (s.encState = .emit ∧ ∃ v, frameByte s s.ePos.toNat = some v ∧
      t = if (s.ePos + 1#9).toNat = s.plen.toNat + 18 then endEmission (emitByte v s) else emitByte v s) := by
  unfold txAccept at h
  split at h
  · rename_i he
    refine .inr ⟨he, ?_⟩
    split at h
    · rename_i v hv
      refine ⟨v, hv, ?_⟩
      split at h
      · rename_i hp
        cases h
        rw [if_pos hp]
      · rename_i hp
        cases h
        rw [if_neg hp]
    · cases h
  · rename_i he
    cases h
    exact .inl ⟨he, rfl⟩

/-- Everything `CAP_CHECK` can do. -/
theorem capCheck_next {s t : State} (h : capCheck s = .next t) :
    (s.capState ≠ .check ∧ t = s) ∨
    (s.capState = .check ∧ s.rxq = [] ∧ t = endIteration s) ∨
    (s.capState = .check ∧ s.widx.toNat < capacity ∧ ∃ b rest, s.rxq = b :: rest ∧ t = storeByte b rest s) := by
  unfold capCheck at h
  split at h
  · rename_i hc
    split at h
    · rename_i b rest hq
      split at h
      · rename_i hw
        cases h
        exact .inr (.inr ⟨hc, hw, b, rest, hq, rfl⟩)
      · cases h
    · rename_i hq
      cases h
      exact .inr (.inl ⟨hc, hq, rfl⟩)
  · rename_i hc
    cases h
    exact .inl ⟨hc, rfl⟩

/-- Everything `TIMER_EXPIRE` can do. -/
theorem timerExpire_next {s t : State} (h : timerExpire s = .next t) :
    (s.capState ≠ .wait ∧ t = s) ∨ (s.capState = .wait ∧ t = endIteration s) := by
  unfold timerExpire at h
  split at h
  · rename_i hc
    cases h
    exact .inr ⟨hc, rfl⟩
  · rename_i hc
    cases h
    exact .inl ⟨hc, rfl⟩

/-- An input of the agenda is the next one. -/
theorem takeInput_cons {s : State} {x : Input} {rest : List Input} (h : s.agenda = x :: rest) :
    takeInput s = some (x, openPorts { s with agenda := rest }) := by
  simp [takeInput, h]

/-- With an empty agenda the enabled fair event is next. -/
theorem takeInput_nil {s : State} (h : s.agenda = []) :
    takeInput s = (enabledEvent s).map fun x => (x, openPorts s) := by
  unfold takeInput
  rw [h]
  cases enabledEvent s <;> rfl

/-- A step with an input in the agenda runs it from the state with its ports open. -/
theorem step_cons {s : State} {x : Input} {rest : List Input} (h : s.agenda = x :: rest) :
    step s = runInput x (openPorts { s with agenda := rest }) := by
  simp [step, takeInput_cons h]

@[simp] theorem payload_length (s : State) : (payload s).length = s.plen.toNat := by simp [payload]

@[simp] theorem span_length (d c : Byte) (p : List Byte) : (span d c p).length = p.length + 5 := by
  simp [span]

/-- A shift does not change how many seed bytes the engine has. -/
@[simp] theorem Engine.shift_ckState (e : Engine) : e.shift.ckState = e.ckState := by
  unfold Engine.shift
  split <;> rfl

@[simp] theorem Engine.shifts_ckState (n : Nat) (e : Engine) : (Engine.shifts n e).ckState = e.ckState := by
  induction n generalizing e with
  | zero => rfl
  | succ n ih => rw [Engine.shifts, ih, Engine.shift_ckState]

@[simp] theorem engineOf_setEngine (e : Engine) (s : State) : engineOf (setEngine e s) = e := rfl

@[simp] theorem setEngine_engineOf (s : State) : setEngine (engineOf s) s = s := rfl

end Sys2Proof.Machine
end

