-- ==== Sys2Proof/Laws/PerInstr.lean ====
section
/-!
SUPPORT. The family `EncodingMatchesTable`: the code of an instruction carries the opcode that its row of
`spec/opcode_table.json` gives it and the operand the instruction holds (`match` under `mask 0xFF00`; R95, R102).
-/

namespace Sys2Proof.Laws.EncodingMatchesTable

/-- A command word with this opcode and this operand. -/
def IsCommand (c : Code) (op : Byte) (v : Byte) : Prop :=
  ∃ w, c = .command w ∧ opcodeField w = op ∧ operandField w = v

/-- The code of the instruction is what the row of the opcode table says. -/
def Statement : Instr → Prop
  | .nop v => IsCommand (encode (.nop v)) 0x00#8 v
  | .ckInit v => IsCommand (encode (.ckInit v)) 0x01#8 v
  | .ckFeed v => IsCommand (encode (.ckFeed v)) 0x02#8 v
  | .ckRdHi v => IsCommand (encode (.ckRdHi v)) 0x03#8 v
  | .ckRdLo v => IsCommand (encode (.ckRdLo v)) 0x04#8 v
  | .encBegin v => IsCommand (encode (.encBegin v)) 0x10#8 v
  | .encPush v => IsCommand (encode (.encPush v)) 0x11#8 v
  | .encSend v => IsCommand (encode (.encSend v)) 0x12#8 v
  | .encTelem v => IsCommand (encode (.encTelem v)) 0x13#8 v
  | .encManual v => IsCommand (encode (.encManual v)) 0x14#8 v
  | .capStart v => IsCommand (encode (.capStart v)) 0x20#8 v
  | .poll v => IsCommand (encode (.poll v)) 0x21#8 v
  | .capRd v => IsCommand (encode (.capRd v)) 0x22#8 v
  | .capLenLo v => IsCommand (encode (.capLenLo v)) 0x23#8 v
  | .capLenHi v => IsCommand (encode (.capLenHi v)) 0x24#8 v
  | .capIterLo v => IsCommand (encode (.capIterLo v)) 0x25#8 v
  | .capIterHi v => IsCommand (encode (.capIterHi v)) 0x26#8 v
  | .rdStatus v => IsCommand (encode (.rdStatus v)) 0x30#8 v
  | .rdErr v => IsCommand (encode (.rdErr v)) 0x31#8 v
  | .rdCause v => IsCommand (encode (.rdCause v)) 0x32#8 v
  | .rdErrCmdHi v => IsCommand (encode (.rdErrCmdHi v)) 0x33#8 v
  | .rdErrCmdLo v => IsCommand (encode (.rdErrCmdLo v)) 0x34#8 v
  | .rdDevId v => IsCommand (encode (.rdDevId v)) 0x35#8 v
  | .cfgDevId v => IsCommand (encode (.cfgDevId v)) 0x36#8 v
  | .reset v => IsCommand (encode (.reset v)) 0x3F#8 v
  | .wireTelemetryRequest => encode .wireTelemetryRequest = .link 0xA0#8
  | .wireManualControl => encode .wireManualControl = .link 0xAA#8

/-- The two fields of a word put together from them. -/
theorem isCommand_append (op v : Byte) : IsCommand (.command (op ++ v)) op v :=
  ⟨op ++ v, rfl, opcodeField_append op v, operandField_append op v⟩

theorem nop (v : Byte) : Statement (.nop v) := isCommand_append _ v
theorem ckInit (v : Byte) : Statement (.ckInit v) := isCommand_append _ v
theorem ckFeed (v : Byte) : Statement (.ckFeed v) := isCommand_append _ v
theorem ckRdHi (v : Byte) : Statement (.ckRdHi v) := isCommand_append _ v
theorem ckRdLo (v : Byte) : Statement (.ckRdLo v) := isCommand_append _ v
theorem encBegin (v : Byte) : Statement (.encBegin v) := isCommand_append _ v
theorem encPush (v : Byte) : Statement (.encPush v) := isCommand_append _ v
theorem encSend (v : Byte) : Statement (.encSend v) := isCommand_append _ v
theorem encTelem (v : Byte) : Statement (.encTelem v) := isCommand_append _ v
theorem encManual (v : Byte) : Statement (.encManual v) := isCommand_append _ v
theorem capStart (v : Byte) : Statement (.capStart v) := isCommand_append _ v
theorem poll (v : Byte) : Statement (.poll v) := isCommand_append _ v
theorem capRd (v : Byte) : Statement (.capRd v) := isCommand_append _ v
theorem capLenLo (v : Byte) : Statement (.capLenLo v) := isCommand_append _ v
theorem capLenHi (v : Byte) : Statement (.capLenHi v) := isCommand_append _ v
theorem capIterLo (v : Byte) : Statement (.capIterLo v) := isCommand_append _ v
theorem capIterHi (v : Byte) : Statement (.capIterHi v) := isCommand_append _ v
theorem rdStatus (v : Byte) : Statement (.rdStatus v) := isCommand_append _ v
theorem rdErr (v : Byte) : Statement (.rdErr v) := isCommand_append _ v
theorem rdCause (v : Byte) : Statement (.rdCause v) := isCommand_append _ v
theorem rdErrCmdHi (v : Byte) : Statement (.rdErrCmdHi v) := isCommand_append _ v
theorem rdErrCmdLo (v : Byte) : Statement (.rdErrCmdLo v) := isCommand_append _ v
theorem rdDevId (v : Byte) : Statement (.rdDevId v) := isCommand_append _ v
theorem cfgDevId (v : Byte) : Statement (.cfgDevId v) := isCommand_append _ v
theorem reset (v : Byte) : Statement (.reset v) := isCommand_append _ v
theorem wireTelemetryRequest : Statement .wireTelemetryRequest := rfl
theorem wireManualControl : Statement .wireManualControl := rfl

end Sys2Proof.Laws.EncodingMatchesTable
end

