-- ==== Sys2Proof/Laws/Safety.lean ====
section
/-!
SUPPORT. How much of R45 and R60 as worded the invariant gives: all of it outside `ASSEMBLE` and `WAIT`, the two states in
which the spec's own rules contradict the wording (log 9, log 10).
-/

namespace Sys2Proof.Machine

theorem invariant_gives_r45_outside_assemble {s : State} (h : BlockInv s) (hs : s.encState ≠ .assemble) :
    R45AsWorded s := by
  obtain ⟨-, ⟨hEmit, hIdle, -, hPoll, -⟩, -, -⟩ := h
  refine ⟨hEmit, fun hn => ⟨?_, by omega⟩, hPoll⟩
  cases e : s.encState
  · exact hIdle e
  · exact absurd e hs
  · exact absurd e hn

theorem invariant_gives_r60_outside_wait {s : State} (h : BlockInv s) (hs : s.capState ≠ .wait) : R60AsWorded s := by
  obtain ⟨⟨hIter, hStored, -, hActive, hDone, hIdle⟩, ⟨-, -, -, -, hDuplex⟩, ⟨hErr, -⟩, ⟨-, -, -, -, -, hQueue⟩⟩ := h
  exact ⟨⟨hStored hs, hIter⟩, hActive, hDone, hIdle, fun hw => absurd hw hs, hQueue, hDuplex, hErr⟩

end Sys2Proof.Machine
end

