-- ==== Sys2Proof/Machine/Timing.lean ====
section
/-!
DEFINITION. The timing formulas of `spec/42_capture.md` R184 and `spec/70_reset_and_hazards.md` R263, R266 to R268. No
step reads them: the machine has no time (R10, R262).
-/

namespace Sys2Proof.Machine

/-- `BAUD` in bit/s on the device link (R6). -/
def baud : Rat := 9600

/-- `IBD_CHARS`, 3.5 character-times (R6). -/
def ibdChars : Rat := 7 / 2

/-- One character-time in seconds: `BITS_PER_CHAR / BAUD` (R12, R266). -/
def charTime (p : Params) : Rat := p.bitsPerChar / baud

/-- The inter-byte delay `T_IBD` in seconds (R184). -/
def interByteDelay (p : Params) : Rat := ibdChars * charTime p

/-- The time in seconds of a frame with an `n`-byte payload, with no idle between bytes (R267). -/
def frameTime (p : Params) (n : Nat) : Rat := (n + 18) * charTime p

/-- The least time in seconds of a capture that stored `widx` bytes (R268). -/
def captureMinTime (p : Params) (widx : Nat) : Rat := widx * interByteDelay p

/-- The estimate of R263: the queue depth that a back-to-back response of `l` bytes needs, `ceil(5 l / 7)`. -/
def depthEstimate (l : Nat) : Nat := (5 * l + 6) / 7

end Sys2Proof.Machine
end

