-- ==== Sys2Proof/Tests/Slice0.lean ====
section
/-!
SUPPORT. Small tests: well-formedness, every row's code written out from `spec/30_encoding.md` R95 and R102, the vectors
of `spec/95_test_vectors.md` that one step shows, the assembler, and for every statement with hypotheses a state and
operands that meet them all.
-/

namespace Sys2Proof.Tests

open Sys2Proof.Machine

/-! ## The states the tests start from -/

/-- A block with a queue of four bytes and the default device id. -/
def params4 : Params := { rxDepth := 4, bitsPerChar := 10, devIdReset := 0x16#8 }

/-- The reset state of that block. -/
def s0 : State := State.powerOn params4

/-- Reset, then `ENC_BEGIN c` and the payload pushed. -/
def assembling (c : Byte) (ps : List Byte) : State :=
  { s0 with
    encState := .assemble, eCmd := c, plen := BitVec.ofNat 8 ps.length
    pbuf := (ps.foldl (fun m b => (m.1 + 1, Memory.write m.2 m.1 b)) (0, [])).2 }

/-- The telemetry-request frame of device `0x16` in hand, at byte `k`. -/
def sending (k : Nat) : State :=
  { s0 with
    encState := .emit, eCmd := 0xA0#8, eDev := 0x16#8, eCkHi := 0xB1#8, eCkLo := 0xA7#8, ePos := BitVec.ofNat 9 k }

/-- A capture about to check, with these bytes waiting, after `n` iterations that stored `w` bytes. -/
def checking (n w : Nat) (q : List Byte) : State :=
  { s0 with capState := .check, iter := BitVec.ofNat 9 n, widx := BitVec.ofNat 9 w, rxq := q }

/-- An engine that has been fed at least two bytes. -/
def running (a b : Byte) : State := { s0 with ckState := .run, r1 := a, r2 := b }

/-- The state an outcome goes on to. -/
def nextOf : Host.Outcome State Fault Refusal → Option State
  | .next s => some s
  | .fault _ => none
  | .refused _ => none

/-- A field of the state an outcome goes on to. -/
def got {α : Type} (o : Host.Outcome State Fault Refusal) (f : State → α) : Option α := (nextOf o).map f

/-- What the fault registers hold. -/
def faultRecord (s : State) : Byte × Byte × Word := (s.err, s.firstErr, s.errCmd)

/-! ## Well-formedness: the one check of R99 -/

theorem test_wellFormed_selector_two : Instr.wellFormed (.encManual 0x02#8) = false := by decide

theorem test_wellFormed_selector_one : Instr.wellFormed (.encManual 0x01#8) = true := by decide

theorem test_wellFormed_ignored_operand : Instr.wellFormed (.ckInit 0xFF#8) = true := by decide

/-! ## Decoding: each row's word written out bit by bit from R95 and R102 -/

theorem test_decode_control :
    decode (.command 0b0000000010100101#16) = .ok (.nop 0xA5#8) ∧
    decode (.command 0b0011000010100101#16) = .ok (.rdStatus 0xA5#8) ∧
    decode (.command 0b0011000110100101#16) = .ok (.rdErr 0xA5#8) ∧
    decode (.command 0b0011001010100101#16) = .ok (.rdCause 0xA5#8) ∧
    decode (.command 0b0011001110100101#16) = .ok (.rdErrCmdHi 0xA5#8) ∧
    decode (.command 0b0011010010100101#16) = .ok (.rdErrCmdLo 0xA5#8) ∧
    decode (.command 0b0011010110100101#16) = .ok (.rdDevId 0xA5#8) ∧
    decode (.command 0b0011011010100101#16) = .ok (.cfgDevId 0xA5#8) ∧
    decode (.command 0b0011111110100101#16) = .ok (.reset 0xA5#8) :=
  ⟨rfl, rfl, rfl, rfl, rfl, rfl, rfl, rfl, rfl⟩

theorem test_decode_engine :
    decode (.command 0b0000000110100101#16) = .ok (.ckInit 0xA5#8) ∧
    decode (.command 0b0000001010100101#16) = .ok (.ckFeed 0xA5#8) ∧
    decode (.command 0b0000001110100101#16) = .ok (.ckRdHi 0xA5#8) ∧
    decode (.command 0b0000010010100101#16) = .ok (.ckRdLo 0xA5#8) :=
  ⟨rfl, rfl, rfl, rfl⟩

theorem test_decode_encoder :
    decode (.command 0b0001000010100101#16) = .ok (.encBegin 0xA5#8) ∧
    decode (.command 0b0001000110100101#16) = .ok (.encPush 0xA5#8) ∧
    decode (.command 0b0001001010100101#16) = .ok (.encSend 0xA5#8) ∧
    decode (.command 0b0001001110100101#16) = .ok (.encTelem 0xA5#8) ∧
    decode (.command 0b0001010010100101#16) = .ok (.encManual 0xA5#8) :=
  ⟨rfl, rfl, rfl, rfl, rfl⟩

theorem test_decode_capture :
    decode (.command 0b0010000010100101#16) = .ok (.capStart 0xA5#8) ∧
    decode (.command 0b0010000110100101#16) = .ok (.poll 0xA5#8) ∧
    decode (.command 0b0010001010100101#16) = .ok (.capRd 0xA5#8) ∧
    decode (.command 0b0010001110100101#16) = .ok (.capLenLo 0xA5#8) ∧
    decode (.command 0b0010010010100101#16) = .ok (.capLenHi 0xA5#8) ∧
    decode (.command 0b0010010110100101#16) = .ok (.capIterLo 0xA5#8) ∧
    decode (.command 0b0010011010100101#16) = .ok (.capIterHi 0xA5#8) :=
  ⟨rfl, rfl, rfl, rfl, rfl, rfl, rfl⟩

theorem test_decode_link :
    decode (.link 0b10100000#8) = .ok .wireTelemetryRequest ∧ decode (.link 0b10101010#8) = .ok .wireManualControl ∧
    decode (.link 0b01010101#8) = .error (.notAFixedLinkCode 0x55#8) :=
  ⟨rfl, rfl, rfl⟩

theorem test_decode_unassigned :
    decode (.command 0x0500#16) = .error (.illegalCmd 0x0500#16) ∧
    decode (.command 0x1500#16) = .error (.illegalCmd 0x1500#16) ∧
    decode (.command 0x2700#16) = .error (.illegalCmd 0x2700#16) ∧
    decode (.command 0x3E00#16) = .error (.illegalCmd 0x3E00#16) ∧
    decode (.command 0xFFFF#16) = .error (.illegalCmd 0xFFFF#16) :=
  ⟨rfl, rfl, rfl, rfl, rfl⟩

theorem test_decode_bytes :
    decodeBytes [0x14#8, 0x01#8, 0x30#8] = .ok (.encManual 0x01#8, [0x30#8]) ∧
    decodeBytes [0x14#8] = .error .truncated :=
  ⟨rfl, rfl⟩

theorem test_decode_table_words :
    decodeTableWord 16 0x02A0 = some (.ckFeed 0xA0#8) ∧ decodeTableWord 8 0xAA = some .wireManualControl ∧
    decodeTableWord 16 0x4000 = none :=
  ⟨rfl, rfl, rfl⟩

/-! ## The checksum: vectors C1 to C26 -/

theorem test_checksum_two_bytes : checksum [0x12#8, 0x34#8] = some 0x1234#16 := by decide

theorem test_checksum_c5 : checksum [0x80#8, 0x00#8, 0x00#8] = some 0xA288#16 := by decide

theorem test_checksum_c10 : checksum [0xFF#8, 0xFF#8, 0xFF#8] = some 0xC30F#16 := by decide

theorem test_checksum_telemetry_span : checksum (span 0x16#8 0xA0#8 []) = some 0xB1A7#16 := by decide +kernel

theorem test_checksum_manual_spans :
    checksum (span 0x16#8 0xAA#8 [0x00#8]) = some 0xFCC9#16 ∧
    checksum (span 0x16#8 0xAA#8 [0x01#8]) = some 0xEC88#16 := by decide +kernel

theorem test_checksum_residue : checksum [0x16#8, 0xA0#8, 0x00#8, 0xB1#8, 0xA7#8] = some 0x0000#16 := by decide +kernel

theorem test_checksum_collision_e7 :
    checksum (span 0x16#8 0x42#8 [0x01#8, 0x10#8, 0x41#8]) = some 0x32F9#16 := by decide +kernel

/-- The first shift of trace C13(c). -/
theorem test_shift_c13c :
    Engine.shift { ckState := .run, r1 := 0xD5#8, r2 := 0xD7#8, r3 := 0x00#8, r4 := 0x00#8 } =
      { ckState := .run, r1 := 0xBB#8, r2 := 0xEF#8, r3 := 0x00#8, r4 := 0xD5#8 } := by decide

/-! ## One step of each command -/

/-- R200. -/
theorem test_nop : got (exec (.nop 0xFF#8) (sending 3)) (·.ePos) = some 3#9 := by decide

/-- R123's example. -/
theorem test_ckInit :
    got (exec (.ckInit 0xFF#8) (running 0xB1#8 0xA7#8)) (fun s => (s.ckState, s.r1, s.r2)) =
      some (.empty, 0x00#8, 0x00#8) := by decide

/-- R124's example. -/
theorem test_ckFeed_run :
    got (exec (.ckFeed 0x00#8) (running 0x16#8 0xA0#8)) (fun s => (s.r1, s.r2)) = some (0xD5#8, 0xD7#8) := by decide

/-- The second seed byte (C31, C32). -/
theorem test_ckFeed_seed :
    got (exec (.ckFeed 0x34#8) { s0 with ckState := .one, r1 := 0x12#8 }) (fun s => (s.ckState, s.r1, s.r2)) =
      some (.run, 0x12#8, 0x34#8) := by decide

/-- C32. -/
theorem test_ckRdHi : got (exec (.ckRdHi 0x00#8) (running 0x12#8 0x34#8)) (·.response) = some (some 0x12#8) := by decide

/-- C30. -/
theorem test_ckRdHi_short :
    got (exec (.ckRdHi 0x00#8) s0) (fun s => (s.response, faultRecord s, statusView s)) =
      some (some 0x00#8, (0x20#8, 0x06#8, 0x0300#16), 0x80#8) := by decide

/-- C32. -/
theorem test_ckRdLo : got (exec (.ckRdLo 0x00#8) (running 0x12#8 0x34#8)) (·.response) = some (some 0x34#8) := by decide

/-- C31. -/
theorem test_ckRdLo_short :
    got (exec (.ckRdLo 0x00#8) { s0 with ckState := .one, r1 := 0x16#8 }) (fun s => (faultRecord s, statusView s)) =
      some ((0x20#8, 0x06#8, 0x0400#16), 0x81#8) := by decide

/-- R142's example, and the restart of E10. -/
theorem test_encBegin_restarts :
    got (exec (.encBegin 0x43#8) (assembling 0x42#8 [0x01#8, 0x02#8])) (fun s => (s.eCmd, s.plen, s.encState)) =
      some (0x43#8, 0x00#8, .assemble) := by decide

/-- R142 after program P2's end state (`ENC_STATE = IDLE`, `E_POS = 19`, `PLEN = 1`): `E_POS` stays (log 10). -/
theorem test_encBegin_keeps_position :
    got (exec (.encBegin 0x42#8) { s0 with ePos := 19#9, plen := 0x01#8 }) (fun s => (s.encState, s.ePos, s.plen)) =
      some (.assemble, 19#9, 0x00#8) := by decide

/-- E26. -/
theorem test_encBegin_busy :
    got (exec (.encBegin 0x42#8) (sending 0)) (fun s => (faultRecord s, statusView s)) =
      some ((0x04#8, 0x03#8, 0x1042#16), 0x88#8) := by decide

/-- R143's example. -/
theorem test_encPush :
    got (exec (.encPush 0x01#8) (assembling 0x42#8 [])) (fun s => (Memory.read s.pbuf 0, s.plen)) =
      some (0x01#8, 0x01#8) := by decide

/-- The 256th push of E8. -/
theorem test_encPush_overflow :
    got (exec (.encPush 0x77#8) { s0 with encState := .assemble, plen := 0xFF#8 })
      (fun s => (faultRecord s, s.plen, statusView s)) =
      some ((0x10#8, 0x05#8, 0x1177#16), 0xFF#8, 0x84#8) := by decide

/-- E10's frame. -/
theorem test_encSend :
    got (exec (.encSend 0x00#8) (assembling 0x43#8 [0x09#8])) (fun s => (s.eCkHi, s.eCkLo, s.r1, s.r2, statusView s)) =
      some (0xF9#8, 0xEA#8, 0xF9#8, 0xEA#8, 0x0A#8) := by decide

/-- E25: `BUSY` before `ENC_SEQ`. -/
theorem test_encSend_busy_first :
    got (exec (.encSend 0x00#8) (checking 0 0 [])) (fun s => (faultRecord s, statusView s)) =
      some ((0x04#8, 0x03#8, 0x1200#16), 0x90#8) := by decide

/-- E6: the fixed bytes do not follow `DEVID`. -/
theorem test_encTelem :
    got (exec (.encTelem 0x00#8) { s0 with devId := 0x01#8 }) (fun s => (s.eDev, s.eCkHi, s.eCkLo, statusView s)) =
      some (0x01#8, 0xB1#8, 0xA7#8, 0x08#8) := by decide

/-- E28. -/
theorem test_encTelem_busy :
    got (exec (.encTelem 0x00#8) (assembling 0x42#8 [])) (fun s => (faultRecord s, statusView s)) =
      some ((0x04#8, 0x03#8, 0x1300#16), 0x84#8) := by decide

/-- P2, step 1. -/
theorem test_encManual :
    got (exec (.encManual 0x01#8) s0) (fun s => (s.eCmd, Memory.read s.pbuf 0, s.eCkHi, s.eCkLo, statusView s)) =
      some (0xAA#8, 0x01#8, 0xEC#8, 0x88#8, 0x0A#8) := by decide

/-- E23: `ILLEGAL_OPERAND` before `BUSY`. -/
theorem test_encManual_illegal :
    got (exec (.encManual 0x05#8) (sending 0)) (fun s => (faultRecord s, statusView s)) =
      some ((0x02#8, 0x02#8, 0x1405#16), 0x88#8) := by decide

/-- K7's restart. -/
theorem test_capStart :
    got (exec (.capStart 0x00#8) { s0 with capState := .done, iter := 256#9 }) (fun s => (s.iter, statusView s)) =
      some (0#9, 0x10#8) := by decide

/-- K10. -/
theorem test_capStart_busy :
    got (exec (.capStart 0x00#8) (sending 0)) (fun s => (faultRecord s, statusView s)) =
      some ((0x04#8, 0x03#8, 0x2000#16), 0x88#8) := by decide

/-- X7. -/
theorem test_poll : got (exec (.poll 0x00#8) s0) statusView = some 0x48#8 := by decide

/-- K12. -/
theorem test_poll_busy :
    got (exec (.poll 0x00#8) (checking 0 0 [])) (fun s => (faultRecord s, statusView s)) =
      some ((0x04#8, 0x03#8, 0x2100#16), 0x90#8) := by decide

/-- P3, steps 298 and 304. -/
theorem test_capRd :
    got (exec (.capRd 0x09#8) { s0 with buf := [(9, 0x10#8)] }) (·.response) = some (some 0x10#8) ∧
    got (exec (.capRd 0xFF#8) { s0 with buf := [(9, 0x10#8)] }) (·.response) = some (some 0x00#8) := by decide

/-- K13. -/
theorem test_capRd_pending :
    got (exec (.capRd 0x09#8) { sending 0 with pollPend := true }) (fun s => (s.response, faultRecord s, statusView s)) =
      some (some 0x00#8, (0x04#8, 0x03#8, 0x2209#16), 0xC8#8) := by decide

/-- K2. -/
theorem test_capLen :
    got (exec (.capLenLo 0x00#8) { s0 with widx := 256#9 }) (·.response) = some (some 0x00#8) ∧
    got (exec (.capLenHi 0x00#8) { s0 with widx := 256#9 }) (·.response) = some (some 0x01#8) := by decide

/-- R175's example and its `DONE` corner. -/
theorem test_capIter :
    got (exec (.capIterLo 0x00#8) (checking 2 0 [])) (·.response) = some (some 0x02#8) ∧
    got (exec (.capIterHi 0x00#8) { s0 with iter := 256#9 }) (·.response) = some (some 0x01#8) := by decide

/-- X9. -/
theorem test_rdStatus :
    got (exec (.rdStatus 0x00#8) { s0 with capState := .wait }) (·.response) = some (some 0x20#8) := by decide

/-- P4, steps 6 to 9. -/
theorem test_rdFaults :
    got (exec (.rdErr 0x00#8) { s0 with err := 0x23#8 }) (·.response) = some (some 0x23#8) ∧
    got (exec (.rdCause 0x00#8) { s0 with firstErr := 0x06#8 }) (·.response) = some (some 0x06#8) ∧
    got (exec (.rdErrCmdHi 0x00#8) { s0 with errCmd := 0x1402#16 }) (·.response) = some (some 0x14#8) ∧
    got (exec (.rdErrCmdLo 0x00#8) { s0 with errCmd := 0x1402#16 }) (·.response) = some (some 0x02#8) := by decide

/-- X1. -/
theorem test_rdDevId : got (exec (.rdDevId 0x00#8) s0) (·.response) = some (some 0x16#8) := by decide

/-- E11: the frame under way keeps its latch. -/
theorem test_cfgDevId :
    got (exec (.cfgDevId 0x01#8) (sending 1)) (fun s => (s.devId, s.eDev)) = some (0x01#8, 0x16#8) := by decide

/-- E14: the frame is cut off, and what was sent stays sent (R208). -/
theorem test_reset :
    got (exec (.reset 0x00#8) { sending 5 with txHistory := [0xAA#8], devId := 0x01#8, err := 0x23#8 })
      (fun s => (s.encState, s.ePos, s.devId, s.err, s.txHistory)) =
      some (.idle, 0#9, 0x16#8, 0x00#8, [0xAA#8]) := by decide

/-- R102, R176: a link code is queued like any byte, and dropped like any byte. -/
theorem test_wireTelemetryRequest :
    got (exec .wireTelemetryRequest { s0 with rxq := [0x41#8] }) (·.rxq) = some [0x41#8, 0xA0#8] := by decide

theorem test_wireManualControl_full :
    got (exec .wireManualControl { s0 with rxq := [1#8, 2#8, 3#8, 4#8] }) (·.rxq) = some [1#8, 2#8, 3#8, 4#8] := by
  decide

/-! ## Steps: fetching, events, illegal words -/

/-- X3. -/
theorem test_step_illegal :
    got (step { s0 with agenda := [.command 0x4000#16] }) (fun s => (faultRecord s, s.response, statusView s)) =
      some ((0x01#8, 0x01#8, 0x4000#16), none, 0x80#8) := by decide

/-- X4: the first fault is kept. -/
theorem test_step_illegal_second :
    got (step { s0 with agenda := [.command 0xFFFF#16], err := 0x01#8, firstErr := 0x01#8, errCmd := 0x0500#16 })
      faultRecord = some (0x01#8, 0x01#8, 0x0500#16) := by decide

/-- A word placed at reset is the next step's command. -/
theorem test_step_withFetchWord :
    got (step (State.reset.withFetchWord 16 0x3600)) (·.devId) = some 0x00#8 := by decide

/-- A link code placed at reset is the next step's byte. -/
theorem test_step_withFetchWord_link :
    got (step (s0.withFetchWord 8 0xA0)) (·.rxq) = some [0xA0#8] := by decide

/-- P3: the 18th `TX_ACCEPT` after `POLL` sends the terminator and starts the capture. -/
theorem test_txAccept_terminator :
    got (step { sending 17 with pollPend := true, agenda := [.txAccept] }) (fun s => (s.txHistory, statusView s)) =
      some ([0x7F#8], 0x10#8) := by decide

/-- Byte 12 of the frame. -/
theorem test_txAccept_device :
    got (step { sending 12 with agenda := [.txAccept] }) (fun s => (s.txHistory, s.ePos)) =
      some ([0x16#8], 13#9) := by decide

/-- K4: the queue of depth 4 drops the fifth byte. -/
theorem test_rxArrive_drop :
    got (step { s0 with rxq := [1#8, 2#8, 3#8, 4#8], agenda := [.rxArrive 5#8] }) (fun s => (s.rxq, statusView s)) =
      some ([1#8, 2#8, 3#8, 4#8], 0x00#8) := by decide

/-- R177's example. -/
theorem test_capCheck_present :
    got (step { checking 0 0 [0x41#8] with agenda := [.capCheck] })
      (fun s => (Memory.read s.buf 0, s.widx, s.iter, s.capState)) =
      some (0x41#8, 1#9, 0#9, .wait) := by decide

/-- The 256th iteration, absent (K7). -/
theorem test_capCheck_last :
    got (step { checking 255 0 [] with agenda := [.capCheck] }) (fun s => (s.iter, s.capState)) =
      some (256#9, .done) := by decide

/-- R178's example. -/
theorem test_timerExpire :
    got (step { s0 with capState := .wait, iter := 2#9, widx := 1#9, agenda := [.timerExpire] })
      (fun s => (s.iter, s.capState)) = some (3#9, .check) := by decide

/-- With nothing on the agenda the fair event happens, and after reset the block waits. -/
theorem test_fair_event :
    got (step (checking 0 0 [])) (·.iter) = some 1#9 ∧ got (step s0) (fun s => s) = some s0 := by decide

/-- A byte store keeps the canonical form when `0x00` is written. -/
theorem test_memory_zero : Memory.write (Memory.write [] 3 0x41#8) 3 0x00#8 = [] := by decide

/-! ## Frames -/

/-- E5. -/
theorem test_frame_e5 :
    computedFrame 0x16#8 0x42#8 [0x01#8, 0x02#8, 0x03#8] =
      [0xAA#8, 0x55#8, 0xAA#8, 0x55#8, 0xAA#8, 0x55#8, 0xEB#8, 0x90#8, 0xEB#8, 0x90#8, 0xEB#8, 0x90#8,
        0x16#8, 0x42#8, 0x03#8, 0x01#8, 0x02#8, 0x03#8, 0xED#8, 0xC8#8, 0x7F#8] := by decide +kernel

/-- E3. -/
theorem test_frame_manual :
    (manualControlFrame 0x16#8 0x01#8).drop 12 =
      [0x16#8, 0xAA#8, 0x01#8, 0x01#8, 0xEC#8, 0x88#8, 0x7F#8] := by decide +kernel

/-- E1. -/
theorem test_frame_telemetry :
    (telemetryRequestFrame 0x16#8).drop 12 = [0x16#8, 0xA0#8, 0x00#8, 0xB1#8, 0xA7#8, 0x7F#8] := by decide

/-! ## The assembler, with an ill-formed line for each check -/

/-- R110: no operand means `0x00`; a comment is dropped. -/
theorem test_asm_command :
    assembleLine ['P', 'O', 'L', 'L', ' ', ';', 'x'] = .ok [.command 0x2100#16] := by rfl

theorem test_asm_operand :
    assembleLine ['C', 'A', 'P', '_', 'R', 'D', ' ', '1', '0'] = .ok [.command 0x220A#16] ∧
    assembleLine ['C', 'A', 'P', '_', 'R', 'D', ' ', '0', 'x', 'F', 'f'] = .ok [.command 0x22FF#16] := ⟨rfl, rfl⟩

/-- R111: 256 is refused, not truncated. -/
theorem test_asm_operand_range :
    assembleLine ['N', 'O', 'P', ' ', '2', '5', '6'] = .error .badOperand ∧
    assembleLine ['N', 'O', 'P', ' ', 'Z'] = .error .badOperand := ⟨rfl, rfl⟩

/-- R110: mnemonics are upper case. -/
theorem test_asm_unknown : assembleLine ['n', 'o', 'p'] = .error .unknownMnemonic := by rfl

theorem test_asm_operand_count :
    assembleLine ['N', 'O', 'P', ' ', '1', ',', ' ', '2'] = .error .wrongOperandCount ∧
    assembleLine ['L', 'O', 'N', ' ', '1'] = .error .wrongOperandCount := ⟨rfl, rfl⟩

/-- Log 20: a missing operand is refused on a pseudo-command and on an event. -/
theorem test_asm_missing_operand :
    assembleLine ['S', 'E', 'N', 'D', 'C', 'O', 'M', 'M', 'A', 'N', 'D'] = .error .wrongOperandCount ∧
    assembleLine ['@', 'R', 'X', '_', 'A', 'R', 'R', 'I', 'V', 'E'] = .error .wrongOperandCount := ⟨rfl, rfl⟩

theorem test_asm_event :
    assembleLine ['@', 'R', 'X', '_', 'A', 'R', 'R', 'I', 'V', 'E', ' ', '0', 'x', 'E', 'E'] =
      .ok [.rxArrive 0xEE#8] := by rfl

/-- R112: program P1's last three words, and the check on the length. -/
theorem test_pseudo_checksum :
    expand (.checksum [0x16#8]) = .error .tooFewBytes ∧
    expand (.checksum [0x16#8, 0xA0#8]) =
      .ok [.ckInit 0x00#8, .ckFeed 0x16#8, .ckFeed 0xA0#8, .ckRdHi 0x00#8, .ckRdLo 0x00#8] := ⟨rfl, rfl⟩

/-- R113: the expansion, and the check on the length. -/
theorem test_pseudo_frame :
    expand (.frame 0x42#8 [0x01#8]) = .ok [.encBegin 0x42#8, .encPush 0x01#8, .encSend 0x00#8] ∧
    ∀ ps : List Byte, ps.length = 256 → expand (.frame 0x42#8 ps) = .error .tooManyBytes :=
  ⟨rfl, fun _ h => if_pos (by omega)⟩

/-- S4. -/
theorem test_host_tokens :
    commandInputs (hostToken ['L', 'O', 'N']) = [.command 0x1401#16] ∧
    commandInputs (hostToken ['L', 'O', 'F', 'F']) = [.command 0x1400#16] ∧
    commandInputs (hostToken ['X', 'Y', 'Z']) = [] := ⟨rfl, rfl, rfl⟩

/-! ## Timing -/

/-- R184 with 10 bits per character: 3.5 × 10 / 9600 s, about 3.646 ms. -/
theorem test_interByteDelay : interByteDelay params4 = 35 / 9600 := by
  simp [interByteDelay, ibdChars, charTime, baud, params4]
  norm_num

/-! ## Witnesses: a state and operands that meet all hypotheses of each statement -/

theorem witness_BlockInv : BlockInv s0 ∧ BlockInv (sending 0) ∧ BlockInv (checking 0 0 [1#8]) :=
  ⟨by decide, by decide, by decide⟩

theorem witness_UnassignedOpcodesRaiseIllegalCmd :
    unassigned (opcodeField 0x0500#16) = true ∧ unassigned (opcodeField 0xFFFF#16) = true ∧
    unassigned (opcodeField 0x0400#16) = false ∧ unassigned (opcodeField 0x3F00#16) = false ∧
    unassigned (opcodeField 0x3E00#16) = true ∧
    ({ s0 with agenda := [.command 0x0500#16] } : State).agenda = .command 0x0500#16 :: [] := by decide

theorem witness_AssignedWordsNameOneInstruction :
    unassigned (opcodeField 0x0000#16) = false ∧ unassigned (opcodeField 0x3FFF#16) = false ∧
    unassigned (opcodeField 0x26FF#16) = false ∧ unassigned (opcodeField 0x2700#16) = true := by decide

theorem witness_StepRunsTheOfferedInstruction :
    ({ s0 with agenda := [.command 0x0100#16] } : State).agenda = .command 0x0100#16 :: [] ∧
    decode (.command 0x0100#16) = .ok (.ckInit 0x00#8) ∧
    ({ s0 with agenda := [.rxArrive 0xA0#8] } : State).agenda = .rxArrive 0xA0#8 :: [] ∧
    decode (.link 0xA0#8) = .ok .wireTelemetryRequest := ⟨rfl, rfl, rfl, rfl⟩

theorem witness_EmptyAgendaStepsTakeTheFairEvent :
    s0.agenda = [] ∧ s0.encState ≠ .emit ∧ capActive s0 = false ∧ (sending 0).encState = .emit ∧
    (checking 0 0 []).capState = .check ∧ ({ s0 with capState := .wait } : State).capState = .wait := by decide

theorem witness_CkFeedAbsorbsOneByte :
    s0.ckState = .empty ∧ ({ s0 with ckState := .one } : State).ckState = .one ∧ (running 0#8 0#8).ckState = .run := by
  decide

theorem witness_ShiftHasTheSixteenBitForm :
    (0x16A0#16 : Word) = (engineOf (running 0x16#8 0xA0#8)).r1 ++ (engineOf (running 0x16#8 0xA0#8)).r2 := by decide

theorem witness_CkReadsAnswerTheChecksum : (running 1#8 2#8).ckState = .run ∧ s0.ckState ≠ .run := by decide

theorem witness_EncBeginOpensAFrame : s0.encState ≠ .emit ∧ (sending 0).encState = .emit := by decide

theorem witness_EncPushAppendsOneByte :
    Memory.wf (assembling 0x42#8 [1#8, 2#8]).pbuf = true ∧ (assembling 0x42#8 [1#8, 2#8]).encState = .assemble ∧
    (assembling 0x42#8 [1#8, 2#8]).plen.toNat < 255 ∧ Memory.wf (sending 0).pbuf = true ∧
    (sending 0).encState = .emit ∧ s0.encState = .idle ∧
    ({ s0 with encState := .assemble, plen := 0xFF#8 } : State).plen.toNat = 255 ∧
    ({ s0 with encState := .assemble, plen := 0xFE#8 } : State).plen.toNat < 255 := by decide

theorem witness_EncSendLatchesTheSpanChecksum :
    (assembling 0x43#8 [9#8]).encState = .assemble ∧ capActive (assembling 0x43#8 [9#8]) = false ∧
    capActive (checking 0 0 []) = true ∧ s0.encState = .idle ∧ capActive s0 = false := by decide

theorem witness_EncTelemStartsTheFixedFrame :
    s0.encState = .idle ∧ capActive s0 = false ∧ (sending 0).encState ≠ .idle := by decide

theorem witness_EncManualSendsItsSelector :
    Memory.wf s0.pbuf = true ∧ (0x01#8 : Byte).toNat ≤ 1 ∧ (0x00#8 : Byte).toNat ≤ 1 ∧ s0.encState = .idle ∧
    capActive s0 = false ∧ 1 < (0x02#8 : Byte).toNat ∧ (sending 0).encState ≠ .idle := by decide

theorem witness_CapStartStartsACapture :
    (assembling 0x42#8 []).encState ≠ .emit ∧ capActive (assembling 0x42#8 []) = false ∧
    capActive (checking 0 0 []) = true := by decide

theorem witness_PollStartsTheFrameAndPendsACapture :
    s0.encState = .idle ∧ capActive s0 = false ∧ (sending 0).encState ≠ .idle ∧ capActive (checking 0 0 []) = true ∧
    ({ sending 17 with pollPend := true, agenda := [.txAccept] } : State).agenda = .txAccept :: [] ∧
    (sending 17).encState = .emit ∧ ({ sending 17 with pollPend := true } : State).pollPend = true ∧
    (sending 17).ePos.toNat = (sending 17).plen.toNat + 17 := by decide

theorem witness_ControlReadsAnswerTheirRegister : FaultInv s0 ∧ s0.err = 0x00#8 := by decide

theorem witness_CapRdReadsTheBuffer :
    capActive s0 = false ∧ s0.pollPend = false ∧ capActive (checking 0 0 []) = true ∧
    ({ sending 0 with pollPend := true } : State).pollPend = true := by decide

theorem witness_ResetKeepsWhatIsNotTheBlocks : exec (.reset 0x00#8) s0 = .next (resetBlock s0) := rfl

theorem witness_LinkCodesJoinTheReceiveQueue :
    s0.rxq.length < s0.params.rxDepth ∧
    ({ s0 with rxq := [1#8, 2#8, 3#8, 4#8] } : State).params.rxDepth ≤
      ({ s0 with rxq := [1#8, 2#8, 3#8, 4#8] } : State).rxq.length := by decide

theorem witness_FaultingCommandsOnlyRecord :
    faultOf s0 (.ckRdHi 0x00#8) = some .ckShort ∧ faultOf (sending 0) (.encPush 1#8) = some .busy ∧
    faultOf s0 (.encPush 1#8) = some .encSeq ∧ faultOf (sending 0) (.encManual 2#8) = some .illegalOperand ∧
    faultOf (checking 0 0 []) (.encSend 0#8) = some .busy ∧
    faultOf { s0 with encState := .assemble, plen := 0xFF#8 } (.encPush 1#8) = some .encOvf := by decide

theorem witness_NoFaultOutsideTheTable :
    faultOf s0 (.poll 0x00#8) = none ∧ ∀ v, Instr.poll 0x00#8 ≠ .reset v :=
  ⟨rfl, by simp⟩

theorem witness_ExactlyTheResponseClassAnswers :
    ({ s0 with agenda := [.command 0x0300#16] } : State).agenda = .command 0x0300#16 :: [] ∧
    decode (.command 0x0300#16) = .ok (.ckRdHi 0x00#8) ∧
    decode (.command 0x4000#16) = .error (.illegalCmd 0x4000#16) ∧
    got (step { s0 with agenda := [.command 0x0300#16] }) (·.raised) = some (some .ckShort) := ⟨rfl, rfl, rfl, rfl⟩

theorem witness_ReadsAreIdempotent :
    responds (.rdStatus 0x00#8) = true ∧
    exec (.rdStatus 0x00#8) s0 = .next { s0 with response := some 0x00#8 } := ⟨rfl, rfl⟩

theorem witness_TxAcceptSendsTheNextFrameByte :
    ({ sending 17 with agenda := [.txAccept] } : State).agenda = .txAccept :: [] ∧
    (sending 17).encState = .emit ∧ (sending 17).ePos.toNat = (sending 17).plen.toNat + 17 ∧
    (sending 16).ePos.toNat < (sending 16).plen.toNat + 17 ∧ (sending 17).pollPend = false ∧
    ({ sending 17 with pollPend := true } : State).pollPend = true := by decide

theorem witness_RxArriveQueuesOrDrops :
    ({ s0 with agenda := [.rxArrive 7#8] } : State).agenda = .rxArrive 7#8 :: [] ∧
    s0.rxq.length < s0.params.rxDepth ∧
    ({ s0 with rxq := [1#8, 2#8, 3#8, 4#8], agenda := [.rxArrive 7#8] } : State).params.rxDepth ≤ 4 := by decide

theorem witness_CapCheckStoresOrCounts :
    ({ checking 255 255 [7#8] with agenda := [.capCheck] } : State).agenda = .capCheck :: [] ∧
    (checking 255 255 [7#8]).capState = .check ∧ Memory.wf (checking 255 255 [7#8]).buf = true ∧
    (checking 255 255 [7#8]).iter.toNat < 256 ∧
    (checking 255 255 [7#8]).widx.toNat ≤ (checking 255 255 [7#8]).iter.toNat ∧
    (checking 255 255 [7#8]).rxq = 7#8 :: [] ∧ (checking 0 0 []).rxq = [] := by decide

theorem witness_TimerExpireEndsTheIteration :
    ({ s0 with capState := .wait, iter := 255#9, widx := 1#9, agenda := [.timerExpire] } : State).agenda =
      .timerExpire :: [] ∧
    ({ s0 with capState := .wait, iter := 255#9 } : State).capState = .wait ∧ (255#9 : Count).toNat < 256 := by decide

theorem witness_DisabledEventsPass :
    ({ s0 with agenda := [.txAccept] } : State).agenda = .txAccept :: [] ∧ s0.encState ≠ .emit ∧
    s0.capState ≠ .check ∧ s0.capState ≠ .wait := by decide

theorem witness_PowerOnMeetsTheInvariant : 1 ≤ params4.rxDepth := by decide

theorem witness_EveryStepKeepsTheInvariant :
    BlockInv (checking 0 0 [7#8]) ∧ ∃ t, step (checking 0 0 [7#8]) = .next t :=
  ⟨by decide, _, rfl⟩

theorem witness_Reachable : Reachable { s0 with agenda := [.txAccept] } := .powerOn params4 [.txAccept] (by decide)

theorem witness_PositionBoundOutsideEmitAsWorded : Reachable { s0 with agenda := [] } ∧ s0.encState ≠ .emit :=
  ⟨.powerOn params4 [] (by decide), by decide⟩

/-- A step of an input that writes neither the engine nor `DEVID`. -/
theorem witness_EngineAndDeviceIdWriters :
    takeInput (sending 0) = some (.txAccept, sending 0) ∧ (∃ t, step (sending 0) = .next t) ∧
    clearsEngine .txAccept = false ∧ fedByte .txAccept = none ∧
    (∀ d, inputInstr .txAccept ≠ some (.cfgDevId d)) ∧ isReset .txAccept = false :=
  ⟨rfl, ⟨_, rfl⟩, rfl, rfl, by simp [inputInstr, inputCode], rfl⟩

/-- A step that changes a byte of the buffer. -/
theorem witness_BufferBytesChangeOnlyByACheck :
    Memory.wf (checking 0 0 [7#8]).buf = true ∧
    takeInput (checking 0 0 [7#8]) = some (.capCheck, checking 0 0 [7#8]) ∧
    (∃ t, step (checking 0 0 [7#8]) = .next t ∧ Memory.read t.buf 0 ≠ Memory.read (checking 0 0 [7#8]).buf 0) ∧
    isReset .capCheck = false :=
  ⟨rfl, rfl, ⟨_, rfl, by decide⟩, rfl⟩

theorem witness_FaultRecordIsSticky :
    takeInput { s0 with err := 0x01#8, firstErr := 1#8, agenda := [.command 0x0300#16] } =
      some (.command 0x0300#16, { s0 with err := 0x01#8, firstErr := 1#8 }) ∧
    (∃ t, step { s0 with err := 0x01#8, firstErr := 1#8, agenda := [.command 0x0300#16] } = .next t) ∧
    isReset (.command 0x0300#16) = false ∧ (0x01#8 : Byte) ≠ 0x00#8 :=
  ⟨rfl, ⟨_, rfl⟩, rfl, by decide⟩

theorem witness_FrameLatchesHoldDuringEmission :
    (sending 3).encState = .emit ∧ takeInput (sending 3) = some (.txAccept, sending 3) ∧
    (∃ t, step (sending 3) = .next t) ∧ isReset .txAccept = false :=
  ⟨rfl, rfl, ⟨_, rfl⟩, rfl⟩

theorem witness_LinkBytesComeOnlyFromTheFrame :
    ∃ t, step (sending 0) = .next t ∧ t.txHistory = [0xAA#8] := ⟨_, rfl, by decide⟩

theorem witness_FixedFramesHaveTheirBytes :
    Memory.wf s0.pbuf = true ∧ s0.encState = .idle ∧ capActive s0 = false ∧ (0x00#8 : Byte).toNat ≤ 1 ∧
    s0.devId = 0x16#8 := by decide

/-- Two bytes fed with an event between them. -/
theorem witness_StreamingEqualsBatch :
    BlockInv { s0 with agenda := [.command 0x0216#16, .rxArrive 1#8, .command 0x02A0#16] } ∧ s0.ckState = .empty ∧
    (∀ x ∈ [Input.command 0x0216#16, .rxArrive 1#8, .command 0x02A0#16], clearsEngine x = false) ∧
    2 ≤ ([Input.command 0x0216#16, .rxArrive 1#8, .command 0x02A0#16].filterMap fedByte).length := by decide

theorem witness_ChecksumSequenceAnswersTheChecksum :
    ∃ is, expand (.checksum [1#8, 2#8]) = .ok is ∧
      ({ s0 with agenda := commandInputs is ++ [] } : State).agenda = commandInputs is ++ [] := ⟨_, rfl, rfl⟩

theorem witness_ChecksumIsLinear :
    [0x16#8, 0xAA#8].length = [0x00#8, 0x01#8].length ∧ 2 ≤ [(0x16#8 : Byte), 0xAA#8].length := by decide

theorem witness_ChecksumIsThePolynomialRemainder : checksum [0x01#8, 0x00#8, 0x00#8] = some 0x1041#16 := by decide

theorem witness_ShortPayloadsHaveDistinctChecksums :
    [0x01#8].length = [0x01#8].length ∧ [(0x01#8 : Byte)].length ≤ 2 ∧
    checksum (span 0x16#8 0xAA#8 [0x01#8]) = checksum (span 0x16#8 0xAA#8 [0x01#8]) :=
  ⟨rfl, by decide, rfl⟩

theorem witness_EveryPayloadCanBeSent :
    BlockInv { s0 with agenda := commandInputs [.encBegin 0x42#8, .encPush 1#8, .encSend 0x00#8] ++ [] } ∧
    s0.encState ≠ .emit ∧ capActive s0 = false ∧ [(1#8 : Byte)].length ≤ 255 ∧
    expand (.frame 0x42#8 [1#8]) = .ok [.encBegin 0x42#8, .encPush 1#8, .encSend 0x00#8] :=
  ⟨by decide, by decide, by decide, by decide, rfl⟩

/-- Two acceptances with a command between them. -/
theorem witness_EmissionSendsTheLatchedFrame :
    BlockInv { sending 0 with agenda := [.txAccept, .command 0x3601#16, .txAccept] } ∧ (sending 0).encState = .emit ∧
    (sending 0).ePos = 0#9 ∧
    (∀ x ∈ [Input.txAccept, .command 0x3601#16, .txAccept], isReset x = false) ∧
    [Input.txAccept, .command 0x3601#16, .txAccept].count .txAccept ≤ (sending 0).plen.toNat + 18 := by decide

theorem witness_EveryActivityEnds : BlockInv (sending 0) ∧ (sending 0).agenda = [] ∧ owedEvents (sending 0) = 18 := by
  decide

theorem witness_CaptureTakesTheWaitingBytes :
    BlockInv (checking 0 0 [7#8, 8#8]) ∧ (checking 0 0 [7#8, 8#8]).agenda = [] ∧
    (checking 0 0 [7#8, 8#8]).capState = .check ∧ (checking 0 0 [7#8, 8#8]).iter = 0#9 ∧
    (checking 0 0 [7#8, 8#8]).rxq[1]? = some 8#8 := by decide

end Sys2Proof.Tests
end

section
/-!
PROOF. A step whose input brings an instruction (`spec/00_scope.md` R10, `spec/30_encoding.md` R93).
-/

namespace Sys2Proof.Machine

/-- An input brings the instruction its code decodes to. -/
theorem inputInstr_of_decode {x : Input} {c : Code} {i : Instr} (hc : inputCode x = some c) (hd : decode c = .ok i) :
    inputInstr x = some i := by
  simp [inputInstr, hc, hd]

/-- An input that brings an instruction is run as that instruction. -/
theorem runInput_of_inputInstr {x : Input} {i : Instr} (h : inputInstr x = some i) (s : State) :
    runInput x s = exec i s := by
  simp [runInput, h]

/-- R10, R93: the next input's code, where it decodes, is executed from the state with the input taken and the ports
open. The command word and the link byte are its two instances. -/
theorem step_of_decode {s : State} {x : Input} {rest : List Input} {c : Code} {i : Instr} (ha : s.agenda = x :: rest)
    (hc : inputCode x = some c) (hd : decode c = .ok i) : step s = exec i (openPorts { s with agenda := rest }) :=
  (step_cons ha).trans (runInput_of_inputInstr (inputInstr_of_decode hc hd) _)

/-- Settles O5: both clauses are `step_of_decode`, for the code of a command word and for the code of a link byte. -/
theorem stepRunsTheOfferedInstruction : Obligations.StepRunsTheOfferedInstruction :=
  ⟨fun _ _ _ _ ha hd => step_of_decode ha rfl hd, fun _ _ _ _ ha hd => step_of_decode ha rfl hd⟩

end Sys2Proof.Machine
end

section
/-!
PROOF. The fault record over one step (`spec/10_state.md` R52 to R54, `spec/60_exceptions.md` R224, R228).
-/

namespace Sys2Proof.Machine

/-- The fault record: `ERR`, `FIRSTERR` and `ERRCMD` (R52 to R54). -/
def faultRegisters (s : State) : Byte × Byte × Word := (s.err, s.firstErr, s.errCmd)

/-- The two things a step without reset does to the fault record: it leaves it as it is, or takes one fault into it
(R224). -/
def KeepsOrTakesFault (s t : State) : Prop :=
  faultRegisters t = faultRegisters s ∨ ∃ f w, faultRegisters t = faultRegisters (recordFault f w s)

/-- Both ways keep every bit of `ERR`, and once a fault is recorded also `FIRSTERR` and `ERRCMD`. -/
theorem KeepsOrTakesFault.sticky {s t : State} (h : KeepsOrTakesFault s t) :
    (∀ n, s.err.getLsbD n = true → t.err.getLsbD n = true) ∧
    (s.err ≠ 0x00#8 → t.firstErr = s.firstErr ∧ t.errCmd = s.errCmd) := by
  simp only [KeepsOrTakesFault, faultRegisters, Prod.mk.injEq] at h
  obtain ⟨hErr, hFirst, hCmd⟩ | ⟨f, w, hErr, hFirst, hCmd⟩ := h
  · exact ⟨fun n hn => hErr ▸ hn, fun _ => ⟨hFirst, hCmd⟩⟩
  · constructor
    · intro n hn
      simp [hErr, hn]
    · intro hne
      simp [hFirst, hCmd, hne]

/-- Only the fault record is read of the state before. -/
theorem KeepsOrTakesFault.of_faultRegisters_eq {s u t : State} (hu : faultRegisters u = faultRegisters s)
    (h : KeepsOrTakesFault u t) : KeepsOrTakesFault s t := by
  simp only [KeepsOrTakesFault, faultRegisters, Prod.mk.injEq, recordFault_err, recordFault_firstErr,
    recordFault_errCmd] at hu h ⊢
  obtain ⟨hErr, hFirst, hCmd⟩ := hu
  rwa [hErr, hFirst, hCmd] at h

theorem keepsOrTakesFault_of_raise {i : Instr} {f : FaultKind} {s t : State} (h : raise i f s = .next t) :
    KeepsOrTakesFault s t := by
  rw [raise_eq] at h
  cases h
  exact .inr ⟨f, commandWord i, rfl⟩

/-- A command of one row of R221: where its condition holds it raises its fault, else it goes on as `o` does. -/
theorem keepsOrTakesFault_of_guard {p : Prop} [Decidable p] {i : Instr} {f : FaultKind} {s t : State}
    {o : Host.Outcome State Fault Refusal} (h : (if p then raise i f s else o) = .next t)
    (ho : o = .next t → KeepsOrTakesFault s t) : KeepsOrTakesFault s t := by
  split at h
  · exact keepsOrTakesFault_of_raise h
  · exact ho h

/-- A command that goes on to a state with the same record. -/
theorem keepsOrTakesFault_of_next {s t u : State} (hu : faultRegisters u = faultRegisters s)
    (h : (.next u : Host.Outcome State Fault Refusal) = .next t) : KeepsOrTakesFault s t := by
  cases h
  exact .inl hu

/-- No command but `RESET` does anything else to the record (R228). -/
theorem exec_keepsOrTakesFault {i : Instr} {s t : State} (hi : ∀ v, i ≠ .reset v) (h : exec i s = .next t) :
    KeepsOrTakesFault s t := by
  cases i with
  | reset v => exact absurd rfl (hi v)
  | ckRdHi _ | ckRdLo _ | encBegin _ | encTelem _ | capStart _ | poll _ | capRd _ =>
    exact keepsOrTakesFault_of_guard h (keepsOrTakesFault_of_next rfl)
  | encSend _ | encManual _ =>
    exact keepsOrTakesFault_of_guard h fun h => keepsOrTakesFault_of_guard h (keepsOrTakesFault_of_next rfl)
  | encPush _ =>
    exact keepsOrTakesFault_of_guard h fun h => keepsOrTakesFault_of_guard h fun h =>
      keepsOrTakesFault_of_guard h (keepsOrTakesFault_of_next rfl)
  | nop _ | ckInit _ | ckFeed _ | capLenLo _ | capLenHi _ | capIterLo _ | capIterHi _ | rdStatus _ | rdErr _
  | rdCause _ | rdErrCmdHi _ | rdErrCmdLo _ | rdDevId _ | cfgDevId _ | wireTelemetryRequest | wireManualControl =>
    cases h
    exact .inl rfl

@[simp] theorem endEmission_faultRegisters (s : State) : faultRegisters (endEmission s) = faultRegisters s := by
  cases h : s.pollPend
  · rw [endEmission_of_not_pend h]; rfl
  · rw [endEmission_of_pend h]; rfl

/-- An unassigned opcode takes the fault `ILLEGAL_CMD` (R96); an event leaves the record. -/
theorem runPlain_keepsOrTakesFault {x : Input} {s t : State} (h : runPlain x s = .next t) : KeepsOrTakesFault s t := by
  cases x with
  | command w =>
    cases h
    exact .inr ⟨.illegalCmd, w, rfl⟩
  | rxArrive b =>
    cases h
    exact .inl rfl
  | txAccept =>
    obtain ⟨-, rfl⟩ | ⟨-, v, -, rfl⟩ := txAccept_next h
    · exact .inl rfl
    · refine .inl ?_
      split
      · rw [endEmission_faultRegisters]; rfl
      · rfl
  | capCheck =>
    obtain ⟨-, rfl⟩ | ⟨-, -, rfl⟩ | ⟨-, -, b, rest, -, rfl⟩ := capCheck_next h <;> exact .inl rfl
  | timerExpire =>
    obtain ⟨-, rfl⟩ | ⟨-, rfl⟩ := timerExpire_next h <;> exact .inl rfl

/-- The instruction of an input that is not the `RESET` command is not `RESET`. -/
theorem ne_reset_of_isReset_eq_false {x : Input} {i : Instr} (hx : isReset x = false) (hi : inputInstr x = some i)
    (v : Byte) : i ≠ .reset v := by
  rintro rfl
  simp [isReset, hi] at hx

/-- An input that brings no instruction has its plain effect. -/
theorem runInput_of_inputInstr_eq_none {x : Input} (h : inputInstr x = none) (s : State) :
    runInput x s = runPlain x s := by
  simp [runInput, h]

theorem runInput_keepsOrTakesFault {x : Input} {s t : State} (hx : isReset x = false) (h : runInput x s = .next t) :
    KeepsOrTakesFault s t := by
  cases hi : inputInstr x with
  | some i =>
    rw [runInput_of_inputInstr hi] at h
    exact exec_keepsOrTakesFault (ne_reset_of_isReset_eq_false hx hi) h
  | none =>
    rw [runInput_of_inputInstr_eq_none hi] at h
    exact runPlain_keepsOrTakesFault h

/-- Taking an input touches the agenda and the ports alone. -/
theorem takeInput_eq_openPorts {s u : State} {x : Input} (h : takeInput s = some (x, u)) :
    u = openPorts { s with agenda := s.agenda.tail } := by
  cases ha : s.agenda with
  | nil =>
    rw [takeInput_nil ha, Option.map_eq_some_iff] at h
    obtain ⟨y, -, hy⟩ := h
    cases hy
    rw [List.tail_nil, ← ha]
  | cons y rest =>
    rw [takeInput_cons ha] at h
    cases h
    rfl

/-- A step runs the input it takes. -/
theorem step_of_takeInput {s u : State} {x : Input} (h : takeInput s = some (x, u)) : step s = runInput x u := by
  simp [step, h]

/-- Settles O45: taking the input leaves the fault record, and what the input then does keeps it or takes a fault into
it. -/
theorem faultRecordIsSticky : Obligations.FaultRecordIsSticky := by
  intro s t u x hu hs hx
  rw [step_of_takeInput hu] at hs
  have hsame : faultRegisters u = faultRegisters s := by rw [takeInput_eq_openPorts hu]; rfl
  exact ((runInput_keepsOrTakesFault hx hs).of_faultRegisters_eq hsame).sticky

end Sys2Proof.Machine
end

section
/-!
PROOF. The status view (`spec/10_state.md` R55, `spec/43_control.md` R201).
-/

namespace Sys2Proof.Machine

/-- Two flags over three 2-bit fields, side by side as R55 draws the byte and summed up as R55 writes it. -/
theorem appendFields_eq_orShifts (a b : Bool) (c d e : BitVec 2) :
    BitVec.ofBool a ++ BitVec.ofBool b ++ c ++ d ++ e =
      e.setWidth 8 ||| (d.setWidth 8 <<< 2) ||| (c.setWidth 8 <<< 4) ||| ((if b then 0x01#8 else 0x00#8) <<< 6)
        ||| ((if a then 0x01#8 else 0x00#8) <<< 7) := by
  revert a b c d e
  decide

/-- Settles O23: the word decodes by its opcode field, and the view's fields stand at the bits R55 shifts them to. -/
theorem rdStatusAnswersTheView : Obligations.RdStatusAnswersTheView := by
  intro v s
  refine ⟨decodeCommand_append 0x30#8 v, ?_⟩
  have hView := appendFields_eq_orShifts (s.err != 0x00#8) s.pollPend (capCode s.capState) (encCode s.encState)
    (ckCode s.ckState)
  simp only [bne_iff_ne] at hView
  rw [← hView]
  rfl

end Sys2Proof.Machine
end

section
/-!
PROOF. The reset values (`spec/10_state.md` R61, `spec/43_control.md` R208) and the invariant at power-on.
-/

namespace Sys2Proof.Machine

/-- With the three units in their first states, no capture pending and no fault recorded, every field of the view is
0. -/
theorem statusView_eq_zero {s : State} (hCk : s.ckState = .empty) (hEnc : s.encState = .idle)
    (hCap : s.capState = .cIdle) (hPoll : s.pollPend = false) (hErr : s.err = 0x00#8) : statusView s = 0x00#8 := by
  rw [statusView, hCk, hEnc, hCap, hPoll, hErr]
  decide

/-- Settles O26: after `RESET` the block is the one after power-on but for the ports, the transmit history and the
agenda, which are no elements of it; so every value is read off `State.powerOn` once. -/
theorem resetLeavesTheResetValues : Obligations.ResetLeavesTheResetValues := by
  intro v s
  refine ⟨decodeCommand_append 0x3F#8 v, resetBlock s, rfl, ?_, rfl⟩
  intro u hu
  have hBlock : ∃ r f h xs, u =
      { State.powerOn s.params with response := r, raised := f, txHistory := h, agenda := xs } := by
    obtain rfl | rfl := hu
    · exact ⟨_, _, _, _, rfl⟩
    · exact ⟨_, _, _, _, rfl⟩
  obtain ⟨r, f, h, xs, rfl⟩ := hBlock
  exact ⟨rfl, rfl, rfl, rfl, rfl, rfl, rfl, rfl, fun _ => rfl, rfl, rfl, rfl, rfl, rfl, rfl, rfl, rfl, rfl,
    fun _ => rfl, rfl, rfl, rfl, rfl, statusView_eq_zero rfl rfl rfl rfl rfl⟩

/-- The invariant at power-on: the counters, the stores and the queue are empty, the units idle, the record clear; only
`1 ≤ RX_DEPTH` is a fact about the block's parameters. -/
theorem blockInv_powerOn {p : Params} (xs : List Input) (hp : 1 ≤ p.rxDepth) :
    BlockInv { State.powerOn p with agenda := xs } := by
  refine ⟨?capture, ?encoder, ?fault, ?stores⟩
  case capture => simp [State.powerOn, CaptureInv, capActive]
  case encoder => simp [State.powerOn, EncoderInv]
  case fault => simp [State.powerOn, FaultInv]
  case stores => exact ⟨rfl, rfl, rfl, rfl, hp, Nat.zero_le _⟩

/-- Settles O38: `State.reset` is the power-on of a block with `RX_DEPTH ≥ 1` and an empty agenda. -/
theorem powerOnMeetsTheInvariant : Obligations.PowerOnMeetsTheInvariant :=
  fun _ xs hp => ⟨blockInv_powerOn xs hp, blockInv_powerOn [] (Nat.le_add_left 1 Config.rxDepthLessOne)⟩

end Sys2Proof.Machine
end

section
/-!
PROOF. Decode after encode (`spec/30_encoding.md` R94, R95, R102, R106) in every form a code is carried: as the code
itself, as bytes (`spec/20_memory.md` R74), and as a word of the opcode table.
-/

namespace Sys2Proof

/-- R94, R95, R102: a command's word is put together from its opcode and its operand, which the opcode map reads back;
the two link codes stand in the decoder as they stand in the encoder. -/
theorem decode_encode (i : Instr) : decode (encode i) = .ok i := by
  cases i with
  | nop v | ckInit v | ckFeed v | ckRdHi v | ckRdLo v | encBegin v | encPush v | encSend v | encTelem v | encManual v
  | capStart v | poll v | capRd v | capLenLo v | capLenHi v | capIterLo v | capIterHi v | rdStatus v | rdErr v
  | rdCause v | rdErrCmdHi v | rdErrCmdLo v | rdDevId v | cfgDevId v | reset v => exact decodeCommand_append _ v
  | wireTelemetryRequest | wireManualControl => rfl

/-- R74: the two bytes of a command word decode as the word does, and the bytes after them are left over. -/
theorem decodeBytes_codeBytes {w : Word} {i : Instr} (h : decode (.command w) = .ok i) (rest : List Byte) :
    decodeBytes (codeBytes (.command w) ++ rest) = .ok (i, rest) := by
  have hWord : decodeCommand w = .ok i := h
  simp [codeBytes, decodeBytes, hWord]

/-- The two bytes a 16-bit table word is laid out in are those of the command word of that number (R74). -/
theorem codeBytes_command (w : Word) :
    codeBytes (.command w) = [BitVec.ofNat 8 (w.toNat / 256), BitVec.ofNat 8 w.toNat] := by
  have hHigh : opcodeField w = BitVec.ofNat 8 (w.toNat / 256) := by
    apply BitVec.eq_of_toNat_eq
    simp [opcodeField, Nat.shiftRight_eq_div_pow]
  have hLow : operandField w = BitVec.ofNat 8 w.toNat := by
    apply BitVec.eq_of_toNat_eq
    simp [operandField]
  rw [codeBytes, hHigh, hLow]

/-- A 16-bit table word is the command word of that number. -/
theorem decodeTableWord_command {w : Word} {i : Instr} (h : decode (.command w) = .ok i) :
    decodeTableWord 16 w.toNat = some i := by
  have hBytes := decodeBytes_codeBytes h []
  rw [codeBytes_command, List.append_nil] at hBytes
  rw [decodeTableWord, if_pos rfl, hBytes]

/-- An 8-bit table word is the link code of that number. -/
theorem decodeTableWord_link {b : Byte} {i : Instr} (h : decode (.link b) = .ok i) :
    decodeTableWord 8 b.toNat = some i := by
  have hLink : decodeLink b = .ok i := h
  simp [decodeTableWord, hLink]

/-- Settles O1: the code of an instruction decodes to it, and what decodes as a code decodes alike as bytes and as a
table word. -/
theorem everyCodeDecodesBack : Obligations.EveryCodeDecodesBack := by
  intro i
  have hDecode := decode_encode i
  refine ⟨hDecode, ?command, ?link⟩
  case command =>
    intro w hw
    rw [encodeBytes, hw]
    rw [hw] at hDecode
    exact ⟨decodeBytes_codeBytes hDecode, decodeTableWord_command hDecode⟩
  case link =>
    intro b hb
    rw [hb] at hDecode
    exact decodeTableWord_link hDecode

end Sys2Proof
end

section
/-!
PROOF. What a command does, said once: it raises the fault the table of `spec/60_exceptions.md` R221 gives it, or has
the effect of its own rule.
-/

namespace Sys2Proof.Machine

/-- What a command does to the state when it does not fault (`spec/40_checksum.md` R123 to R126, `spec/41_encoder.md`
R142 to R146, `spec/42_capture.md` R171 to R175, `spec/43_control.md` R200 to R208), and what a link code does. -/
def effect (i : Instr) (s : State) : State :=
  match i with
  | .nop _ => s
  | .ckInit _ => setEngine (engineOf s).clear s
  | .ckFeed b => setEngine ((engineOf s).feed b) s
  | .ckRdHi _ => { s with response := some s.r1 }
  | .ckRdLo _ => { s with response := some s.r2 }
  | .encBegin c => { s with eCmd := c, plen := 0x00#8, encState := .assemble }
  | .encPush b => { s with pbuf := Memory.write s.pbuf s.plen.toNat b, plen := s.plen + 1#8 }
  | .encSend _ => startComputed s
  | .encTelem _ => startTelemetry s
  | .encManual v => startManual v s
  | .capStart _ => startCapture s
  | .poll _ => { startTelemetry s with pollPend := true }
  | .capRd k => { s with response := some (Memory.read s.buf (indexOperand k)) }
  | .capLenLo _ => { s with response := some (counterLo s.widx) }
  | .capLenHi _ => { s with response := some (counterHi s.widx) }
  | .capIterLo _ => { s with response := some (counterLo s.iter) }
  | .capIterHi _ => { s with response := some (counterHi s.iter) }
  | .rdStatus _ => { s with response := some (statusView s) }
  | .rdErr _ => { s with response := some s.err }
  | .rdCause _ => { s with response := some s.firstErr }
  | .rdErrCmdHi _ => { s with response := some (wordHi s.errCmd) }
  | .rdErrCmdLo _ => { s with response := some (wordLo s.errCmd) }
  | .rdDevId _ => { s with response := some s.devId }
  | .cfgDevId d => { s with devId := d }
  | .reset _ => resetBlock s
  | .wireTelemetryRequest => receiveByte cmdTelemetry s
  | .wireManualControl => receiveByte cmdManual s

/-- R221, R224: a command raises the fault of its row whose condition holds first, and where none holds it has its
effect. The guards of a command and of its row are compared state by state of the units they test. -/
theorem exec_eq (i : Instr) (s : State) :
    exec i s = (faultOf s i).elim (.next (effect i s)) fun f => raise i f s := by
  cases i with
  | ckRdHi _ | ckRdLo _ =>
    cases hCk : s.ckState <;> simp [exec, execCkRdHi, execCkRdLo, faultOf, hCk, respond, effect]
  | encBegin _ => cases hEnc : s.encState <;> simp [exec, execEncBegin, faultOf, hEnc, effect]
  | encPush _ =>
    have hFull : s.plen = 0xFF#8 ↔ s.plen.toNat = 255 := BitVec.toNat_inj.symm
    cases hEnc : s.encState with
    | idle | emit => simp [exec, execEncPush, faultOf, hEnc]
    | assemble => by_cases hLen : s.plen.toNat = 255 <;> simp [exec, execEncPush, faultOf, hEnc, hFull, hLen, effect]
  | encSend _ | encTelem _ | capStart _ | poll _ =>
    cases hEnc : s.encState <;> cases hCap : capActive s <;>
      simp [exec, execEncSend, execEncTelem, execCapStart, execPoll, faultOf, hEnc, hCap, effect]
  | encManual v =>
    by_cases hSel : 1 < v.toNat
    · simp [exec, execEncManual, selectorLegal, faultOf, hSel]
    · have hLegal : v.toNat ≤ 1 := Nat.le_of_not_lt hSel
      cases hEnc : s.encState <;> cases hCap : capActive s <;>
        simp [exec, execEncManual, selectorLegal, faultOf, hSel, hLegal, hEnc, hCap, effect]
  | capRd _ =>
    cases hCap : capActive s <;> cases hPoll : s.pollPend <;>
      simp [exec, execCapRd, faultOf, hCap, hPoll, respond, effect]
  | nop _ | ckInit _ | ckFeed _ | capLenLo _ | capLenHi _ | capIterLo _ | capIterHi _ | rdStatus _ | rdErr _
  | rdCause _ | rdErrCmdHi _ | rdErrCmdLo _ | rdDevId _ | cfgDevId _ | reset _ | wireTelemetryRequest
  | wireManualControl => rfl

/-- Everything a command can do: take the fault of its row into the record, or have its effect where no row applies. -/
theorem exec_next {i : Instr} {s t : State} (h : exec i s = .next t) :
    (∃ f, faultOf s i = some f ∧
      t = { recordFault f (commandWord i) s with
        response := if responds i = true then some 0x00#8 else s.response }) ∨
    (faultOf s i = none ∧ t = effect i s) := by
  rw [exec_eq] at h
  cases hf : faultOf s i with
  | some f =>
    rw [hf, Option.elim_some, raise_eq] at h
    cases h
    exact .inl ⟨f, rfl, rfl⟩
  | none =>
    rw [hf] at h
    cases h
    exact .inr ⟨rfl, rfl⟩

end Sys2Proof.Machine
end

section
/-!
PROOF. The bytes of `BUF` over one step (`spec/20_memory.md` R70, `spec/42_capture.md` R177, R181).
-/

namespace Sys2Proof.Machine

/-- No command's effect but that of `RESET` touches `BUF`. -/
theorem effect_buf {i : Instr} (hi : ∀ v, i ≠ .reset v) (s : State) : (effect i s).buf = s.buf := by
  cases i with
  | reset v => exact absurd rfl (hi v)
  | _ => rfl

theorem exec_buf {i : Instr} {s t : State} (hi : ∀ v, i ≠ .reset v) (h : exec i s = .next t) : t.buf = s.buf := by
  obtain ⟨f, -, rfl⟩ | ⟨-, rfl⟩ := exec_next h
  · rfl
  · exact effect_buf hi s

@[simp] theorem endEmission_buf (s : State) : (endEmission s).buf = s.buf := by
  cases h : s.pollPend
  · rw [endEmission_of_not_pend h]
  · rw [endEmission_of_pend h]; rfl

/-- The store of a present check (R177): the head of the queue is put at `WIDX`, an index `BUF` has. -/
def StoresHead (s t : State) : Prop :=
  s.capState = .check ∧ s.widx.toNat < capacity ∧
    ∃ b, s.rxq.head? = some b ∧ t.buf = Memory.write s.buf s.widx.toNat b

/-- Of the events only `CAP_CHECK` writes `BUF`, where it finds a byte; an unassigned opcode writes its fault alone. -/
theorem runPlain_buf {x : Input} {s t : State} (h : runPlain x s = .next t) :
    t.buf = s.buf ∨ (x = .capCheck ∧ StoresHead s t) := by
  cases x with
  | command w =>
    cases h
    exact .inl rfl
  | rxArrive b =>
    cases h
    exact .inl rfl
  | txAccept =>
    obtain ⟨-, rfl⟩ | ⟨-, v, -, rfl⟩ := txAccept_next h
    · exact .inl rfl
    · exact .inl (by split <;> simp)
  | capCheck =>
    obtain ⟨-, rfl⟩ | ⟨-, -, rfl⟩ | ⟨hCheck, hIndex, b, rest, hQueue, rfl⟩ := capCheck_next h
    · exact .inl rfl
    · exact .inl rfl
    · exact .inr ⟨rfl, hCheck, hIndex, b, by rw [hQueue]; rfl, rfl⟩
  | timerExpire =>
    obtain ⟨-, rfl⟩ | ⟨-, rfl⟩ := timerExpire_next h <;> exact .inl rfl

theorem runInput_buf {x : Input} {s t : State} (hx : isReset x = false) (h : runInput x s = .next t) :
    t.buf = s.buf ∨ (x = .capCheck ∧ StoresHead s t) := by
  cases hi : inputInstr x with
  | some i =>
    rw [runInput_of_inputInstr hi] at h
    exact .inl (exec_buf (ne_reset_of_isReset_eq_false hx hi) h)
  | none =>
    rw [runInput_of_inputInstr_eq_none hi] at h
    exact runPlain_buf h

/-- In a store of canonical form the present check changes no byte but the one at `WIDX`, and the byte there after it is
the queue's head (R70, R177). -/
theorem StoresHead.of_read_ne {s t : State} (h : StoresHead s t) (hWf : Memory.wf s.buf = true) {k : Nat}
    (hk : Memory.read t.buf k ≠ Memory.read s.buf k) :
    k = s.widx.toNat ∧ s.rxq.head? = some (Memory.read t.buf k) := by
  obtain ⟨-, -, b, hHead, hBuf⟩ := h
  rw [hBuf, Memory.read_write _ _ _ hWf] at hk ⊢
  by_cases hIndex : s.widx.toNat = k
  · rw [if_pos hIndex]
    exact ⟨hIndex.symm, hHead⟩
  · rw [if_neg hIndex] at hk
    exact absurd rfl hk

/-- Settles O44: taking the input leaves `BUF`, the queue and the counters, and of what an input without reset then does
only the store of a present check writes `BUF`. -/
theorem bufferBytesChangeOnlyByACheck : Obligations.BufferBytesChangeOnlyByACheck := by
  intro s t u x hWf hu hs hx k hk
  rw [step_of_takeInput hu] at hs
  obtain rfl := takeInput_eq_openPorts hu
  obtain hBuf | ⟨rfl, hStore⟩ := runInput_buf hx hs
  · exact absurd (by rw [hBuf]; rfl) hk
  · obtain ⟨hIndex, hHead⟩ := hStore.of_read_ne hWf hk
    obtain ⟨hCheck, hRange, -⟩ := hStore
    exact ⟨rfl, hCheck, hIndex, hIndex ▸ hRange, hHead⟩

end Sys2Proof.Machine
end

section
/-!
PROOF. The two halves of the command words (`spec/30_encoding.md` R94 to R96): the assigned opcodes, each word of which
is the code of one command, and the ranges of R96, which the decoder refuses.
-/

namespace Sys2Proof

/-- The opcode map of R95 and the ranges of R96 share the opcodes out: an opcode in the ranges is refused, every other
one names a command whose code it begins. -/
theorem decodeFields_cases (op v : Byte) :
    (Machine.unassigned op = true ∧ decodeFields op v = .error (.illegalCmd (op ++ v))) ∨
    (Machine.unassigned op = false ∧ ∃ i, decodeFields op v = .ok i ∧ encode i = .command (op ++ v)) := by
  unfold decodeFields
  split
  case h_26 =>
    refine .inl ⟨?_, rfl⟩
    have hBound : op.toNat < 256 := op.isLt
    simp only [imp_false] at *
    simp only [Machine.unassigned, Bool.or_eq_true, decide_eq_true_eq]
    omega
  all_goals
    rename_i hOp
    have hLiteral : BitVec.ofNat 8 op.toNat = op := by simp
    rw [hOp] at hLiteral
    subst hLiteral
    exact .inr ⟨by decide, _, rfl, rfl⟩

/-- The same of a command word, which is put together from its two fields. -/
theorem decode_command_cases (w : Word) :
    (Machine.unassigned (opcodeField w) = true ∧ decode (.command w) = .error (.illegalCmd w)) ∨
    (Machine.unassigned (opcodeField w) = false ∧ ∃ i, decode (.command w) = .ok i ∧ encode i = .command w) := by
  have h := decodeFields_cases (opcodeField w) (operandField w)
  rwa [opcodeField_append_operandField] at h

theorem decode_of_unassigned {w : Word} (hw : Machine.unassigned (opcodeField w) = true) :
    decode (.command w) = .error (.illegalCmd w) := by
  obtain ⟨-, h⟩ | ⟨h, -⟩ := decode_command_cases w
  · exact h
  · simp [hw] at h

theorem exists_decode_of_assigned {w : Word} (hw : Machine.unassigned (opcodeField w) = false) :
    ∃ i, decode (.command w) = .ok i ∧ encode i = .command w := by
  obtain ⟨h, -⟩ | ⟨-, h⟩ := decode_command_cases w
  · simp [hw] at h
  · exact h

/-- An instruction with the code of another decodes from it, and the decoder answers one instruction. -/
theorem encode_inj {i j : Instr} (h : encode i = encode j) : i = j := by
  have hi := decode_encode i
  rw [h, decode_encode j] at hi
  cases hi
  rfl

/-- Settles O2: the opcode map names a command, and two commands with one code are one. -/
theorem assignedWordsNameOneInstruction : Obligations.AssignedWordsNameOneInstruction := by
  intro w hw
  obtain ⟨i, hDecode, hCode⟩ := exists_decode_of_assigned hw
  exact ⟨i, hDecode, hCode, fun j hj => encode_inj (hj.trans hCode.symm)⟩

/-- Settles O4: each word's opcode and operand are read off by evaluation, and 0x40 is no row of the map. -/
theorem commandWordsReadOffTheOpcodeMap : Obligations.CommandWordsReadOffTheOpcodeMap :=
  ⟨rfl, rfl, rfl, rfl, rfl, rfl, rfl, rfl⟩

end Sys2Proof

namespace Sys2Proof.Machine

/-- A word that decodes to no command brings no instruction. -/
theorem inputInstr_of_decode_error {w : Word} {r : Rejection} (h : decode (.command w) = .error r) :
    inputInstr (.command w) = none := by
  simp [inputInstr, inputCode, h]

/-- R96: the step that offers a word which decodes to no command takes the fault `ILLEGAL_CMD` into the record. -/
theorem step_of_decode_error {s : State} {w : Word} {rest : List Input} {r : Rejection}
    (ha : s.agenda = .command w :: rest) (hd : decode (.command w) = .error r) :
    step s = .next (recordFault .illegalCmd w (openPorts { s with agenda := rest })) :=
  (step_cons ha).trans (runInput_of_inputInstr_eq_none (inputInstr_of_decode_error hd) _)

/-- Settles O3: the decoder refuses the word, so the step is the fault record of `ILLEGAL_CMD`, whose code is 1 and
whose bit is bit 0. -/
theorem unassignedOpcodesRaiseIllegalCmd : Obligations.UnassignedOpcodesRaiseIllegalCmd :=
  fun _ _ _ hw => ⟨decode_of_unassigned hw, fun ha => step_of_decode_error ha (decode_of_unassigned hw)⟩

end Sys2Proof.Machine
end

section
/-!
PROOF. The response port (`spec/30_encoding.md` R92, `spec/60_exceptions.md` R224, R225) and the reads, which change
nothing (R77).
-/

namespace Sys2Proof.Machine

/-- R94, R226: no command stops the machine. -/
theorem exists_exec_next (i : Instr) (s : State) : ∃ t, exec i s = .next t := by
  rw [exec_eq]
  cases faultOf s i with
  | none => exact ⟨_, rfl⟩
  | some f => exact ⟨_, raise_eq i f s⟩

/-- R92: from an open port the commands of the response class, and no others, put a byte on it. -/
theorem effect_response {s : State} (hs : s.response = none) (i : Instr) :
    (effect i s).response.isSome = responds i := by
  cases i with
  | ckRdHi _ | ckRdLo _ | capRd _ | capLenLo _ | capLenHi _ | capIterLo _ | capIterHi _ | rdStatus _ | rdErr _
  | rdCause _ | rdErrCmdHi _ | rdErrCmdLo _ | rdDevId _ => rfl
  | _ => exact congrArg Option.isSome hs

/-- No command's effect is a fault. -/
theorem effect_raised (i : Instr) (s : State) : (effect i s).raised = s.raised := by
  cases i <;> rfl

/-- R92, R225: from open ports a command answers a byte exactly when it is of the response class, and `0x00` when it
faulted. -/
theorem exec_response {i : Instr} {s t : State} (hResponse : s.response = none) (hRaised : s.raised = none)
    (h : exec i s = .next t) :
    t.response.isSome = responds i ∧ (t.raised ≠ none → responds i = true → t.response = some 0x00#8) := by
  obtain ⟨f, -, rfl⟩ | ⟨-, rfl⟩ := exec_next h
  · cases hi : responds i <;> simp [hResponse]
  · exact ⟨effect_response hResponse i, fun hne => absurd ((effect_raised i s).trans hRaised) hne⟩

/-- Settles O31: a word that decodes is executed from open ports, and one that does not only takes its fault. -/
theorem exactlyTheResponseClassAnswers : Obligations.ExactlyTheResponseClassAnswers := by
  intro s w rest ha
  cases hd : decode (.command w) with
  | ok i =>
    obtain ⟨t, ht⟩ := exists_exec_next i (openPorts { s with agenda := rest })
    refine ⟨t, (step_of_decode ha rfl hd).trans ht, ?_, nofun⟩
    rintro _ ⟨⟩
    exact exec_response rfl rfl ht
  | error r => exact ⟨_, step_of_decode_error ha hd, nofun, fun _ _ => rfl⟩

/-- R221: the conditions of a row are about the units, so nothing a read changes bears on them. -/
theorem faultOf_congr {s t : State} (hCk : t.ckState = s.ckState) (hEnc : t.encState = s.encState)
    (hLen : t.plen = s.plen) (hPoll : t.pollPend = s.pollPend) (hCap : t.capState = s.capState) (i : Instr) :
    faultOf t i = faultOf s i := by
  have hActive : capActive t = capActive s := by simp [capActive, hCap]
  cases i <;> simp only [faultOf, hCk, hEnc, hLen, hPoll, hActive]

/-- A read's answer is not among what it reads. -/
theorem effect_effect {i : Instr} (hi : responds i = true) (s : State) : effect i (effect i s) = effect i s := by
  cases i with
  | ckRdHi _ | ckRdLo _ | capRd _ | capLenLo _ | capLenHi _ | capIterLo _ | capIterHi _ | rdStatus _ | rdErr _
  | rdCause _ | rdErrCmdHi _ | rdErrCmdLo _ | rdDevId _ => rfl
  | _ => cases hi

/-- R77: a read that has its effect touches the port alone. -/
theorem effect_of_responds {i : Instr} (hi : responds i = true) (s : State) :
    effect i s = { s with response := (effect i s).response } := by
  cases i with
  | ckRdHi _ | ckRdLo _ | capRd _ | capLenLo _ | capLenHi _ | capIterLo _ | capIterHi _ | rdStatus _ | rdErr _
  | rdCause _ | rdErrCmdHi _ | rdErrCmdLo _ | rdDevId _ => rfl
  | _ => cases hi

/-- Every fault has a bit in `ERR` (R56). -/
theorem errBit_ne_zero (f : FaultKind) : errBit f ≠ 0x00#8 := by
  cases f <;> decide

/-- A read that faulted and takes the same fault again stays as it is (R224): `FIRSTERR` and `ERRCMD` keep the first
fault, and `ERR` gains a bit it has. -/
theorem raise_of_raise {i : Instr} {f : FaultKind} {s t : State} (hi : responds i = true)
    (h : raise i f s = .next t) : raise i f t = .next t := by
  rw [raise_eq, if_pos hi] at h ⊢
  cases h
  simp [recordFault, errBit_ne_zero, BitVec.or_assoc]

/-- A read leaves every condition of its row as it was, faulted or not. -/
theorem faultOf_of_exec_read {i : Instr} {s t : State} (hi : responds i = true) (h : exec i s = .next t) :
    faultOf t i = faultOf s i := by
  obtain ⟨f, -, rfl⟩ | ⟨-, rfl⟩ := exec_next h
  · exact faultOf_congr rfl rfl rfl rfl rfl i
  · rw [effect_of_responds hi]
    exact faultOf_congr rfl rfl rfl rfl rfl i

/-- Settles O32: the read meets the same condition of R221 the second time; if it faulted, it takes the same fault
again, and if not, it reads the same value. -/
theorem readsAreIdempotent : Obligations.ReadsAreIdempotent := by
  intro i s t hi h
  have hSame := faultOf_of_exec_read hi h
  rw [exec_eq] at h ⊢
  rw [hSame]
  cases hf : faultOf s i with
  | some f =>
    rw [hf] at h
    exact raise_of_raise hi h
  | none =>
    rw [hf] at h
    cases h
    exact congrArg Host.Outcome.next (effect_effect hi s)

end Sys2Proof.Machine
end

section
/-!
PROOF. The bytes of the frame in hand (`spec/30_encoding.md` R100, R103, R104, `spec/41_encoder.md` R140, R141, R147).
-/

namespace Sys2Proof.Machine

/-- A command that meets no condition of R221 has its effect. -/
theorem exec_of_faultOf_eq_none {i : Instr} {s : State} (h : faultOf s i = none) : exec i s = .next (effect i s) := by
  rw [exec_eq, h, Option.elim_none]

@[simp] theorem wireFrame_length (d c : Byte) (p : List Byte) (hi lo : Byte) :
    (wireFrame d c p hi lo).length = p.length + 18 := by
  simp [wireFrame, preamble]

/-- R40: `PLEN` counts the payload. -/
@[simp] theorem ofNat_payload_length (s : State) : BitVec.ofNat 8 (payload s).length = s.plen := by simp

/-- R100, R140: `FrameByte` reads the wire frame of the latches off byte by byte: the envelope, the payload, and the
three bytes after it; past them neither has a byte. -/
theorem frameByte_eq_wireFrame (s : State) (k : Nat) :
    frameByte s k = (wireFrame s.eDev s.eCmd (payload s) s.eCkHi s.eCkLo)[k]? := by
  rw [wireFrame, ofNat_payload_length]
  by_cases hEnvelope : k < 15
  · rw [List.append_assoc, List.getElem?_append_left (by simpa [preamble] using hEnvelope)]
    interval_cases k <;> rfl
  obtain ⟨j, rfl⟩ := Nat.exists_eq_add_of_le (Nat.le_of_not_lt hEnvelope)
  have hLength : (preamble ++ [s.eDev, s.eCmd, s.plen]).length = 15 := rfl
  rw [List.append_assoc, List.getElem?_append_right (by omega), hLength, Nat.add_sub_cancel_left]
  by_cases hPayload : j < s.plen.toNat
  · rw [List.getElem?_append_left (by simpa using hPayload)]
    simp (disch := omega) only [frameByte, if_pos, if_neg, Nat.add_sub_cancel_left]
    simp [payload, hPayload]
  obtain ⟨i, rfl⟩ := Nat.exists_eq_add_of_le (Nat.le_of_not_lt hPayload)
  rw [List.getElem?_append_right (by simp), payload_length, Nat.add_sub_cancel_left]
  match i with
  | 0 | 1 | 2 =>
    simp (disch := omega) only [frameByte, if_pos, if_neg]
    rfl
  | i + 3 =>
    simp (disch := omega) only [frameByte, if_neg]
    rfl

/-- Settles O48: the list of the statement is the wire frame of the latches, with `PLEN` as its length byte. -/
theorem frameBytesAreTheWireFrame : Obligations.FrameBytesAreTheWireFrame := by
  intro s k
  rw [frameByte_eq_wireFrame, wireFrame, ofNat_payload_length]
  rfl

/-- R140: there is a byte at every index up to the terminator's. -/
theorem exists_frameByte {s : State} {k : Nat} (hk : k ≤ s.plen.toNat + 17) : ∃ v, frameByte s k = some v := by
  rw [frameByte_eq_wireFrame]
  exact ⟨_, List.getElem?_eq_getElem (by simp; omega)⟩

/-- R127, R141: a span has at least five bytes, so the checksum of it always has a value. -/
theorem exists_checksum_span (d c : Byte) (p : List Byte) : ∃ w, checksum (span d c p) = some w :=
  ⟨_, checksum_eq_feedAll (engineOf State.reset) (by simp)⟩

theorem computedFrame_eq_wireFrame {d c : Byte} {p : List Byte} {w : Word} (h : checksum (span d c p) = some w) :
    computedFrame d c p = wireFrame d c p (wordHi w) (wordLo w) := by
  rw [computedFrame, h]

/-- R141, R147: `StartComputed` puts the frame in hand that carries the checksum of its own span, because the engine
fed the span holds that checksum. -/
theorem frameByte_startComputed (s : State) (k : Nat) :
    frameByte (startComputed s) k = (computedFrame s.devId s.eCmd (payload s))[k]? := by
  have hChecksum : checksum (span s.devId s.eCmd (payload s)) = some ((spanEngine s).r1 ++ (spanEngine s).r2) :=
    checksum_eq_feedAll (engineOf s) (by simp)
  rw [frameByte_eq_wireFrame, computedFrame_eq_wireFrame hChecksum, wordHi_append, wordLo_append]
  rfl

/-- R103, R145: the telemetry-request frame put in hand. -/
theorem frameByte_startTelemetry (s : State) (k : Nat) :
    frameByte (startTelemetry s) k = (telemetryRequestFrame s.devId)[k]? :=
  frameByte_eq_wireFrame (startTelemetry s) k

/-- R104, R146: the manual-control frame put in hand; its payload is the byte just written. -/
theorem frameByte_startManual {s : State} (hWf : Memory.wf s.pbuf = true) (v : Byte) (k : Nat) :
    frameByte (startManual v s) k = (manualControlFrame s.devId v)[k]? := by
  have hPayload : payload { s with eCmd := cmdManual, pbuf := Memory.write s.pbuf 0 v, plen := 0x01#8 } = [v] := by
    simp [payload, Memory.read_write _ _ _ hWf]
  rw [startManual, frameByte_startComputed, hPayload]
  rfl

/-- R104: the two checksums the spec writes out, for device id `0x16`. -/
theorem checksum_manualSpan_default :
    checksum (span 0x16#8 cmdManual [0x00#8]) = some 0xFCC9#16 ∧
    checksum (span 0x16#8 cmdManual [0x01#8]) = some 0xEC88#16 := by
  decide +kernel

/-- R99: the legal selectors are 0 and 1. -/
theorem eq_zero_or_one_of_toNat_le {v : Byte} (hv : v.toNat ≤ 1) : v = 0x00#8 ∨ v = 0x01#8 := by
  bv_omega

theorem checksum_manualSpan_of_default {v : Byte} {w : Word} (hv : v.toNat ≤ 1)
    (h : checksum (span 0x16#8 cmdManual [v]) = some w) : w = if v = 0x00#8 then 0xFCC9#16 else 0xEC88#16 := by
  obtain ⟨hZero, hOne⟩ := checksum_manualSpan_default
  obtain rfl | rfl := eq_zero_or_one_of_toNat_le hv
  · exact Option.some.inj (h.symm.trans hZero)
  · exact Option.some.inj (h.symm.trans hOne)

/-- Settles O49: in `IDLE` with no capture neither command faults, and each puts its frame in hand. -/
theorem fixedFramesHaveTheirBytes : Obligations.FixedFramesHaveTheirBytes := by
  intro v s hWf hIdle hActive
  constructor
  · have hNoFault : faultOf s (.encTelem v) = none := by simp [faultOf, hIdle, hActive]
    exact ⟨_, exec_of_faultOf_eq_none hNoFault, fun k => frameByte_startTelemetry s k⟩
  · intro hv
    have hNoFault : faultOf s (.encManual v) = none := by simp [faultOf, hIdle, hActive, Nat.not_lt.mpr hv]
    obtain ⟨w, hw⟩ := exists_checksum_span s.devId cmdManual [v]
    refine ⟨_, wordHi w, wordLo w, exec_of_faultOf_eq_none hNoFault, ?_, ?_, ?_⟩
    · rw [wordHi_append_wordLo]
      exact hw
    · intro hDev
      rw [wordHi_append_wordLo]
      rw [hDev] at hw
      exact checksum_manualSpan_of_default hv hw
    · intro k
      refine (frameByte_startManual hWf v k).trans ?_
      rw [manualControlFrame, computedFrame_eq_wireFrame hw]
      rfl

end Sys2Proof.Machine
end

section
/-!
PROOF. Runs of the command lists the pseudo-commands stand for (`spec/30_encoding.md` R112, R113): the `CHECKSUM`
sequence and the `FRAME` sequence.
-/

namespace Sys2Proof.Machine

/-- A run begins with its first step. -/
theorem runSteps_succ {s u : State} (h : step s = .next u) (n : Nat) : runSteps (n + 1) s = runSteps n u := by
  rw [runSteps, h]

/-- A run goes on from where its first part ended. -/
theorem runSteps_add {m : Nat} {s u : State} (h : runSteps m s = .next u) (n : Nat) :
    runSteps (m + n) s = runSteps n u := by
  induction m generalizing s with
  | zero =>
    cases h
    rw [Nat.zero_add]
  | succ m ih =>
    rw [runSteps] at h
    cases hs : step s with
    | next t =>
      rw [hs] at h
      rw [Nat.add_right_comm, runSteps_succ hs]
      exact ih h
    | fault f => rw [hs] at h; cases h
    | refused r => rw [hs] at h; cases h

@[simp] theorem commandInputs_cons (i : Instr) (is : List Instr) :
    commandInputs (i :: is) = .command (commandWord i) :: commandInputs is := rfl

theorem commandInputs_append (is js : List Instr) :
    commandInputs (is ++ js) = commandInputs is ++ commandInputs js := List.map_append

/-- The state after a step whose command has its effect, with `rest` left on the agenda. -/
def afterCommand (i : Instr) (rest : List Input) (s : State) : State := effect i (openPorts { s with agenda := rest })

/-- R93: a step that offers a host command which meets no condition of R221 has the command's effect, from the state
with the command taken and the ports open. -/
theorem step_command {s : State} {i : Instr} {rest : List Input} (ha : s.agenda = .command (commandWord i) :: rest)
    (hi : encode i = .command (commandWord i)) (hf : faultOf s i = none) :
    step s = .next (afterCommand i rest s) := by
  have hDecode : decode (.command (commandWord i)) = .ok i := hi ▸ decode_encode i
  rw [step_of_decode ha rfl hDecode]
  exact exec_of_faultOf_eq_none ((faultOf_congr rfl rfl rfl rfl rfl i).trans hf)

/-- No command's effect but that of `RESET` touches `ERR` (R228). -/
theorem afterCommand_err {i : Instr} (hi : ∀ v, i ≠ .reset v) (rest : List Input) (s : State) :
    (afterCommand i rest s).err = s.err := by
  cases i with
  | reset v => exact absurd rfl (hi v)
  | _ => rfl

/-- R123, R124: an engine that was fed at least two bytes since it was cleared is in `RUN`. -/
theorem Engine.clear_feedAll_run (e : Engine) {bs : List Byte} (h : 2 ≤ bs.length) :
    (e.clear.feedAll bs).ckState = .run := by
  match bs with
  | b0 :: b1 :: rest => exact Engine.feedAll_run (e := { e with ckState := .run, r1 := b0, r2 := b1 }) rest rfl
  | [_] => simp at h
  | [] => simp at h

/-- R124: one `CK_FEED` per byte feeds the engine the bytes and touches no fault. -/
theorem runSteps_ckFeeds (bs : List Byte) {s : State} {rest : List Input}
    (ha : s.agenda = commandInputs (bs.map .ckFeed) ++ rest) :
    ∃ t, runSteps bs.length s = .next t ∧ t.agenda = rest ∧ t.err = s.err ∧
      engineOf t = (engineOf s).feedAll bs := by
  induction bs generalizing s with
  | nil => exact ⟨s, rfl, ha, rfl, rfl⟩
  | cons b bs ih =>
    have hStep := step_command (i := .ckFeed b) ha rfl rfl
    obtain ⟨t, hRun, hRest, hErr, hEngine⟩ := ih (s := afterCommand (.ckFeed b) _ s) rfl
    exact ⟨t, (runSteps_succ hStep _).trans hRun, hRest, hErr, hEngine⟩

/-- R112: `CHECKSUM` stands for commands where it has at least two bytes. -/
theorem expand_checksum {bs : List Byte} {is : List Instr} (h : expand (.checksum bs) = .ok is) :
    2 ≤ bs.length ∧ is = .ckInit 0x00#8 :: (bs.map .ckFeed ++ [.ckRdHi 0x00#8, .ckRdLo 0x00#8]) := by
  rw [expand] at h
  split at h
  · cases h
  · rename_i hLength
    cases h
    exact ⟨Nat.le_of_not_lt hLength, rfl⟩

/-- Settles O51: `CK_INIT` clears the engine, the feeds leave it in `RUN` with the checksum in its two registers, and
the two reads answer them. -/
theorem checksumSequenceAnswersTheChecksum : Obligations.ChecksumSequenceAnswersTheChecksum := by
  intro s bs is rest hExpand ha
  obtain ⟨hLength, rfl⟩ := expand_checksum hExpand
  rw [commandInputs_cons, commandInputs_append, List.cons_append, List.append_assoc] at ha
  have hInit := step_command (i := .ckInit 0x00#8) ha rfl rfl
  obtain ⟨t, hFeeds, hAgenda, hErr, hEngine⟩ := runSteps_ckFeeds bs
    (s := afterCommand (.ckInit 0x00#8) _ s) (rest := commandInputs [.ckRdHi 0x00#8, .ckRdLo 0x00#8] ++ rest) rfl
  replace hEngine : engineOf t = (engineOf s).clear.feedAll bs := hEngine
  have hRun : (engineOf t).ckState = .run := hEngine ▸ Engine.clear_feedAll_run (engineOf s) hLength
  have hChecksum : checksum bs = some ((engineOf t).r1 ++ (engineOf t).r2) :=
    hEngine ▸ checksum_eq_feedAll (engineOf s) hLength
  have hNoFault : faultOf t (.ckRdHi 0x00#8) = none := if_pos hRun
  have hHi := step_command (rest := commandInputs [.ckRdLo 0x00#8] ++ rest) hAgenda rfl hNoFault
  have hLo := step_command (s := afterCommand (.ckRdHi 0x00#8) _ t) (i := .ckRdLo 0x00#8) (rest := rest) rfl rfl
    hNoFault
  refine ⟨_, _, _, hChecksum, ?_, congrArg some (wordHi_append _ _).symm, hLo, congrArg some (wordLo_append _ _).symm,
    rfl, ?_⟩
  · exact (runSteps_succ hInit (bs.length + 1)).trans ((runSteps_add hFeeds 1).trans (runSteps_succ hHi 0))
  · simp [afterCommand_err, hErr]

/-- R143: `ENC_PUSH` puts its byte behind the payload, where `PLEN` has room to count it. -/
theorem payload_encPush {s : State} (b : Byte) (hWf : Memory.wf s.pbuf = true) (hLen : s.plen.toNat < 255) :
    payload (effect (.encPush b) s) = payload s ++ [b] := by
  have hCount : (s.plen + 1#8).toNat = s.plen.toNat + 1 := by bv_omega
  have hBefore : ∀ k ∈ List.range s.plen.toNat,
      Memory.read (Memory.write s.pbuf s.plen.toNat b) k = Memory.read s.pbuf k := by
    intro k hk
    rw [Memory.read_write _ _ _ hWf, if_neg (Nat.ne_of_gt (List.mem_range.mp hk))]
  rw [payload, effect, hCount, List.range_succ, List.map_append, List.map_congr_left hBefore, List.map_singleton,
    Memory.read_write _ _ _ hWf, if_pos rfl]
  rfl

/-- `t` is `s`, in `ASSEMBLE`, with `ps` pushed behind its payload: what the pushes of R113 lead to and what
`ENC_SEND` then reads. -/
structure Pushed (s : State) (ps : List Byte) (t : State) : Prop where
  encState : t.encState = .assemble
  capState : t.capState = s.capState
  err : t.err = s.err
  devId : t.devId = s.devId
  eCmd : t.eCmd = s.eCmd
  payload : payload t = Machine.payload s ++ ps

/-- R143: one `ENC_PUSH` per byte pushes the bytes, as far as a payload of 255 bytes has room for them. -/
theorem runSteps_encPushes (ps : List Byte) {s : State} {rest : List Input}
    (ha : s.agenda = commandInputs (ps.map .encPush) ++ rest) (hEnc : s.encState = .assemble)
    (hWf : Memory.wf s.pbuf = true) (hRoom : (payload s).length + ps.length ≤ 255) :
    ∃ t, runSteps ps.length s = .next t ∧ t.agenda = rest ∧ Pushed s ps t := by
  induction ps generalizing s with
  | nil => exact ⟨s, rfl, ha, hEnc, rfl, rfl, rfl, rfl, (List.append_nil _).symm⟩
  | cons b ps ih =>
    have hLen : s.plen.toNat < 255 := by
      simp only [payload_length, List.length_cons] at hRoom
      omega
    have hStep := step_command (i := .encPush b) ha rfl (by simp [faultOf, hEnc, Nat.ne_of_lt hLen])
    have hPush : payload (afterCommand (.encPush b) (commandInputs (ps.map .encPush) ++ rest) s) = payload s ++ [b] :=
      payload_encPush b hWf hLen
    obtain ⟨t, hRun, hRest, hPushed⟩ :=
      ih (s := afterCommand (.encPush b) _ s) rfl hEnc (Memory.wf_write _ b hWf)
        (by rwa [hPush, List.length_append, Nat.add_assoc, Nat.add_comm [b].length])
    refine ⟨t, (runSteps_succ hStep _).trans hRun, hRest, hPushed.encState, hPushed.capState, hPushed.err,
      hPushed.devId, hPushed.eCmd, ?_⟩
    rw [hPushed.payload, hPush, List.append_assoc, List.singleton_append]

/-- R113: `FRAME` stands for commands where its payload has at most 255 bytes. -/
theorem expand_frame (c : Byte) {ps : List Byte} (h : ps.length ≤ 255) :
    expand (.frame c ps) = .ok (.encBegin c :: (ps.map .encPush ++ [.encSend 0x00#8])) := by
  rw [expand, if_neg (Nat.not_lt.mpr h)]
  rfl

/-- Settles O57: `ENC_BEGIN` opens an empty payload, the pushes fill it, and `ENC_SEND` puts the frame in hand that
carries the checksum of its own span; no command of the three meets a condition of R221. -/
theorem everyPayloadCanBeSent : Obligations.EveryPayloadCanBeSent := by
  intro s c ps rest hInv hEnc hActive hLength
  obtain ⟨-, -, -, -, -, hWf, -⟩ := hInv
  refine ⟨_, expand_frame c hLength, fun ha => ?_⟩
  rw [commandInputs_cons, commandInputs_append, List.cons_append, List.append_assoc] at ha
  have hBegin := step_command (i := .encBegin c) ha rfl (by simp [faultOf, hEnc])
  obtain ⟨t, hPushes, hAgenda, hPushed⟩ := runSteps_encPushes ps (s := afterCommand (.encBegin c) _ s)
    (rest := commandInputs [.encSend 0x00#8] ++ rest) rfl rfl hWf ((Nat.zero_add ps.length).trans_le hLength)
  have hQuiet : capActive t = false := by
    rw [← hActive, capActive, hPushed.capState]
    rfl
  have hNoFault : faultOf t (.encSend 0x00#8) = none := by simp [faultOf, hPushed.encState, hQuiet]
  have hSend := step_command (rest := rest) hAgenda rfl hNoFault
  refine ⟨afterCommand (.encSend 0x00#8) rest t, ?_, rfl, hPushed.err, rfl, rfl, fun k => ?_⟩
  · exact (runSteps_succ hBegin (ps.length + 1)).trans ((runSteps_add hPushes 1).trans (runSteps_succ hSend 0))
  · have hFrame : computedFrame t.devId t.eCmd (payload t) = computedFrame s.devId c ps := by
      rw [hPushed.devId, hPushed.eCmd, hPushed.payload]
      rfl
    rw [← hFrame]
    exact frameByte_startComputed _ k

end Sys2Proof.Machine
end

section
/-!
PROOF. The fair events (`spec/30_encoding.md` R105, `spec/70_reset_and_hazards.md` R262): which one is next, that a
disabled one passes, and that in states of the invariant none stops the machine.
-/

namespace Sys2Proof.Machine

theorem enabledEvent_of_emit {s : State} (h : s.encState = .emit) : enabledEvent s = some .txAccept := by
  simp [enabledEvent, h]

theorem enabledEvent_of_check {s : State} (hEnc : s.encState ≠ .emit) (hCap : s.capState = .check) :
    enabledEvent s = some .capCheck := by
  cases he : s.encState with
  | emit => exact absurd he hEnc
  | idle | assemble => simp [enabledEvent, he, hCap]

theorem enabledEvent_of_wait {s : State} (hEnc : s.encState ≠ .emit) (hCap : s.capState = .wait) :
    enabledEvent s = some .timerExpire := by
  cases he : s.encState with
  | emit => exact absurd he hEnc
  | idle | assemble => simp [enabledEvent, he, hCap]

/-- R252: with the encoder not sending and no capture active the block waits. -/
theorem enabledEvent_of_inactive {s : State} (hEnc : s.encState ≠ .emit) (hCap : capActive s = false) :
    enabledEvent s = none := by
  cases he : s.encState with
  | emit => exact absurd he hEnc
  | idle | assemble =>
    cases hc : s.capState with
    | check | wait => simp [capActive, hc] at hCap
    | cIdle | done => simp [enabledEvent, he, hc]

/-- With an empty agenda the enabled event is run. -/
theorem step_of_enabledEvent {s : State} {x : Input} (ha : s.agenda = []) (hx : enabledEvent s = some x) :
    step s = runInput x (openPorts s) :=
  step_of_takeInput (by rw [takeInput_nil ha, hx]; rfl)

/-- With an empty agenda and no event enabled nothing happens. -/
theorem step_of_no_enabledEvent {s : State} (ha : s.agenda = []) (hx : enabledEvent s = none) : step s = .next s := by
  rw [step, takeInput_nil ha, hx]
  rfl

/-- An input that is the whole agenda is run from the state as it was, its ports open. -/
theorem step_singleton {s : State} (ha : s.agenda = []) (x : Input) :
    step { s with agenda := [x] } = runInput x (openPorts s) := by
  rw [step_cons rfl, ← ha]

/-- Settles O6: the enabled event is run alike from an empty agenda and as the agenda's one input. -/
theorem emptyAgendaStepsTakeTheFairEvent : Obligations.EmptyAgendaStepsTakeTheFairEvent := by
  intro s ha
  refine ⟨fun hEnc => ?_, fun hEnc hCap => ?_, fun hEnc hCap => ?_, fun hEnc hCap => ?_⟩
  · rw [step_of_enabledEvent ha (enabledEvent_of_emit hEnc), step_singleton ha]
  · rw [step_of_enabledEvent ha (enabledEvent_of_check hEnc hCap), step_singleton ha]
  · rw [step_of_enabledEvent ha (enabledEvent_of_wait hEnc hCap), step_singleton ha]
  · exact step_of_no_enabledEvent ha (enabledEvent_of_inactive hEnc hCap)

/-- Settles O37: each of the three events tests its unit's state and, where it is another, leaves the state it was
given: the one with the turn taken and the ports open. -/
theorem disabledEventsPass : Obligations.DisabledEventsPass := by
  rintro s x rest ha (⟨rfl, hEnc⟩ | ⟨rfl, hCap⟩ | ⟨rfl, hCap⟩)
  · exact (step_cons ha).trans (if_neg hEnc)
  · exact (step_cons ha).trans (if_neg hCap)
  · exact (step_cons ha).trans (if_neg hCap)

/-- R140, R150: `TX_ACCEPT` stops only past the terminator. -/
theorem exists_txAccept_next {s : State} (h : s.encState = .emit → s.ePos.toNat ≤ s.plen.toNat + 17) :
    ∃ t, txAccept s = .next t := by
  unfold txAccept
  split
  · next hEnc =>
    obtain ⟨v, hv⟩ := exists_frameByte (h hEnc)
    simp only [hv]
    split <;> exact ⟨_, rfl⟩
  · exact ⟨_, rfl⟩

/-- R70, R177: `CAP_CHECK` stops only past the last index of `BUF`. -/
theorem exists_capCheck_next {s : State} (h : s.capState = .check → s.widx.toNat < capacity) :
    ∃ t, capCheck s = .next t := by
  unfold capCheck
  split
  · next hCap =>
    split
    · exact ⟨_, if_pos (h hCap)⟩
    · exact ⟨_, rfl⟩
  · exact ⟨_, rfl⟩

theorem exists_timerExpire_next (s : State) : ∃ t, timerExpire s = .next t := by
  unfold timerExpire
  split <;> exact ⟨_, rfl⟩

/-- R180: the invariant keeps a check within `BUF`. -/
theorem CaptureInv.widx_lt {s : State} (h : CaptureInv s) (hCheck : s.capState = .check) : s.widx.toNat < capacity := by
  obtain ⟨-, hStored, -, hActive, -, -⟩ := h
  exact Nat.lt_of_le_of_lt (hStored (by simp [hCheck])) (hActive (by simp [capActive, hCheck]))

/-- R94, R226: no input stops the machine in a state of the invariant. -/
theorem exists_runInput_next {s : State} (h : BlockInv s) (x : Input) : ∃ t, runInput x s = .next t := by
  obtain ⟨hCapture, ⟨hEmit, -⟩, -⟩ := h
  cases hi : inputInstr x with
  | some i =>
    rw [runInput_of_inputInstr hi]
    exact exists_exec_next i s
  | none =>
    rw [runInput_of_inputInstr_eq_none hi]
    cases x with
    | command w => exact ⟨_, rfl⟩
    | rxArrive b => exact ⟨_, rfl⟩
    | txAccept => exact exists_txAccept_next hEmit
    | capCheck => exact exists_capCheck_next hCapture.widx_lt
    | timerExpire => exact exists_timerExpire_next s

/-- Taking the turn and opening the ports is nothing the invariant speaks of. -/
theorem blockInv_openPorts {s : State} (h : BlockInv s) (xs : List Input) :
    BlockInv (openPorts { s with agenda := xs }) := h

/-- Settles O40: with no input the block waits, and no input stops it. -/
theorem invariantStatesNeverStop : Obligations.InvariantStatesNeverStop := by
  intro s h
  cases hTake : takeInput s with
  | none => exact ⟨s, by rw [step, hTake]⟩
  | some xu =>
    obtain ⟨x, u⟩ := xu
    rw [step_of_takeInput hTake]
    obtain rfl := takeInput_eq_openPorts hTake
    exact exists_runInput_next (blockInv_openPorts h _) x

end Sys2Proof.Machine
end

section
/-!
PROOF. Every emission and every capture ends (`spec/42_capture.md` R187): each fair event keeps the invariant and leaves
fewer events owed.
-/

namespace Sys2Proof.Machine

/-- R7: a counter that is not at its last value counts on. -/
theorem count_succ_toNat {c : Count} (h : c.toNat < 511) : (c + 1#9).toNat = c.toNat + 1 := by
  bv_omega

/-- The end of an iteration of a capture keeps the invariant, where at most the iteration's own byte is stored and not
counted yet (R177, R178). -/
theorem blockInv_endIteration {s : State} (h : BlockInv s) (hActive : capActive s = true)
    (hStored : s.widx.toNat ≤ s.iter.toNat + 1) : BlockInv (endIteration s) := by
  obtain ⟨⟨-, -, -, hRange, -⟩, ⟨hEmit, hIdle, hPos, hPoll, hDuplex⟩, hFault, hStore⟩ := h
  have hIter : s.iter.toNat < capacity := hRange hActive
  have hNext := count_succ_toNat (hIter.trans (by decide))
  refine ⟨?_, ⟨hEmit, hIdle, hPos, hPoll, fun hBoth => hDuplex ⟨hBoth.1, hActive⟩⟩, hFault, hStore⟩
  by_cases hLast : s.iter.toNat + 1 = capacity <;>
    simp [CaptureInv, endIteration, capActive, hNext, hLast] <;> omega

/-- A present check keeps the invariant (R177): the byte goes to an index of `BUF` from the queue, and the iteration
waits. -/
theorem blockInv_storeByte {s : State} (h : BlockInv s) (hCheck : s.capState = .check) {b : Byte} {rest : List Byte}
    (hQueue : s.rxq = b :: rest) : BlockInv (storeByte b rest s) := by
  obtain ⟨hCapture, ⟨hEmit, hIdle, hPos, hPoll, hDuplex⟩, hFault, hBufWf, hBufSize, hPbufWf, hPbufSize, hDepth,
    hLength⟩ := h
  have hActive : capActive s = true := by simp [capActive, hCheck]
  have hWidx := hCapture.widx_lt hCheck
  obtain ⟨hIter, hStored, -, hRange, -⟩ := hCapture
  have hNext := count_succ_toNat (hWidx.trans (by decide))
  have hLe := hStored (by simp [hCheck])
  refine ⟨?_, ⟨hEmit, hIdle, hPos, hPoll, fun hBoth => hDuplex ⟨hBoth.1, hActive⟩⟩, hFault, Memory.wf_write _ b hBufWf,
    Memory.below_write b hWidx hBufSize, hPbufWf, hPbufSize, hDepth, ?_⟩
  · simpa [CaptureInv, capActive, hNext, hIter, hLe] using hRange hActive
  · rw [hQueue] at hLength
    exact Nat.le_of_succ_le hLength

/-- A byte of the frame that is not the last keeps the invariant (R150). -/
theorem blockInv_emitByte {s : State} (h : BlockInv s) (hEnc : s.encState = .emit) (v : Byte)
    (hMore : (s.ePos + 1#9).toNat ≤ s.plen.toNat + 17) : BlockInv (emitByte v s) := by
  obtain ⟨hCapture, ⟨-, -, -, hPoll, hDuplex⟩, hFault, hStore⟩ := h
  have hLen : s.plen.toNat < 256 := s.plen.isLt
  refine ⟨hCapture, ⟨fun _ => hMore, fun hIdle => ?_, ?_, hPoll, hDuplex⟩, hFault, hStore⟩
  · simp [hEnc] at hIdle
  · rw [emitByte_ePos]
    omega

/-- The terminator keeps the invariant (R150): the encoder is idle, and the capture of a `POLL` starts from 0. -/
theorem blockInv_endEmission {s : State} (h : BlockInv s) (v : Byte)
    (hLast : (s.ePos + 1#9).toNat = s.plen.toNat + 18) : BlockInv (endEmission (emitByte v s)) := by
  obtain ⟨hCapture, -, hFault, hStore⟩ := h
  have hLen : s.plen.toNat < 256 := s.plen.isLt
  have hPos : (s.ePos + 1#9).toNat ≤ 273 := by omega
  cases hPoll : (emitByte v s).pollPend with
  | false =>
    rw [endEmission_of_not_pend hPoll]
    refine ⟨hCapture, ⟨nofun, fun _ => hLast.le, hPos, fun hTrue => ?_, nofun⟩, hFault, hStore⟩
    exact absurd (hPoll.symm.trans hTrue) (by decide)
  | true =>
    rw [endEmission_of_pend hPoll]
    exact ⟨by simp [CaptureInv, capActive, capacity], ⟨nofun, fun _ => hLast.le, hPos, nofun, nofun⟩, hFault, hStore⟩

/-- The events a capture still owes, one that is pending or under way (the second part of `owedEvents`). -/
def captureOwed (s : State) : Nat :=
  if s.pollPend then 512
  else match s.capState with
    | .check => 2 * (capacity - s.iter.toNat)
    | .wait => 2 * (capacity - s.iter.toNat) - 1
    | .cIdle => 0
    | .done => 0

theorem owedEvents_eq (s : State) :
    owedEvents s = (if s.encState = .emit then s.plen.toNat + 18 - s.ePos.toNat else 0) + captureOwed s := rfl

theorem owedEvents_of_emit {s : State} (h : s.encState = .emit) :
    owedEvents s = s.plen.toNat + 18 - s.ePos.toNat + captureOwed s := by
  rw [owedEvents_eq, if_pos h]

theorem owedEvents_of_not_emit {s : State} (h : s.encState ≠ .emit) : owedEvents s = captureOwed s := by
  rw [owedEvents_eq, if_neg h, Nat.zero_add]

theorem captureOwed_of_check {s : State} (hPoll : s.pollPend = false) (hCap : s.capState = .check) :
    captureOwed s = 2 * (256 - s.iter.toNat) := by
  simp [captureOwed, hPoll, hCap, capacity]

theorem captureOwed_of_wait {s : State} (hPoll : s.pollPend = false) (hCap : s.capState = .wait) :
    captureOwed s = 2 * (256 - s.iter.toNat) - 1 := by
  simp [captureOwed, hPoll, hCap, capacity]

/-- Two events are owed for each iteration not counted yet, in `CHECK` and, where there is none, in `DONE`. -/
theorem captureOwed_endIteration {s : State} (hPoll : s.pollPend = false) (hIter : s.iter.toNat < 256) :
    captureOwed (endIteration s) = 2 * (256 - (s.iter.toNat + 1)) := by
  have hNext := count_succ_toNat (hIter.trans (by decide))
  by_cases hLast : s.iter.toNat + 1 = 256
  · simp [captureOwed, endIteration, capacity, hPoll, hNext, hLast]
  · simp [captureOwed, endIteration, capacity, hPoll, hNext, hLast]

theorem captureOwed_of_pend {s : State} (h : s.pollPend = true) : captureOwed s = 512 := if_pos h

theorem captureOwed_le (s : State) : captureOwed s ≤ 512 := by
  unfold captureOwed capacity
  split
  · omega
  · split <;> omega

/-- The capture that starts with the end of an emission is owed as it was while it was pending. -/
@[simp] theorem captureOwed_endEmission (s : State) : captureOwed (endEmission s) = captureOwed s := by
  cases h : s.pollPend with
  | false => rw [endEmission_of_not_pend h]; rfl
  | true => rw [endEmission_of_pend h, captureOwed_of_pend h]; rfl

@[simp] theorem endEmission_encState (s : State) : (endEmission s).encState = .idle := by
  cases h : s.pollPend with
  | false => rw [endEmission_of_not_pend h]
  | true => rw [endEmission_of_pend h]; rfl

@[simp] theorem endEmission_agenda (s : State) : (endEmission s).agenda = s.agenda := by
  cases h : s.pollPend with
  | false => rw [endEmission_of_not_pend h]
  | true => rw [endEmission_of_pend h]; rfl

/-- What one fair event does in a state of the invariant: it keeps the invariant and the agenda, and fewer events are
owed after it. -/
structure Progress (s t : State) : Prop where
  blockInv : BlockInv t
  agenda : t.agenda = s.agenda
  owed : owedEvents t < owedEvents s

/-- Half-duplex: no frame is being sent during a capture, and so none pends one (R60(g), R44). -/
theorem encoder_of_capActive {s : State} (h : BlockInv s) (hActive : capActive s = true) :
    s.encState ≠ .emit ∧ s.pollPend = false := by
  obtain ⟨-, ⟨-, -, -, hPoll, hDuplex⟩, -⟩ := h
  have hEnc : s.encState ≠ .emit := fun hEmit => hDuplex ⟨hEmit, hActive⟩
  exact ⟨hEnc, Bool.eq_false_iff.mpr fun hPend => hEnc (hPoll hPend)⟩

/-- An iteration that ends is not owed any more. -/
theorem progress_endIteration {s : State} (h : BlockInv s) (hActive : capActive s = true)
    (hStored : s.widx.toNat ≤ s.iter.toNat + 1) : Progress s (endIteration s) := by
  refine ⟨blockInv_endIteration h hActive hStored, rfl, ?_⟩
  obtain ⟨hEnc, hPoll⟩ := encoder_of_capActive h hActive
  obtain ⟨⟨-, -, -, hRange, -⟩, -⟩ := h
  have hIter : s.iter.toNat < 256 := hRange hActive
  rw [owedEvents_of_not_emit hEnc, owedEvents_of_not_emit (s := endIteration s) hEnc,
    captureOwed_endIteration hPoll hIter]
  cases hCap : s.capState with
  | cIdle | done => simp [capActive, hCap] at hActive
  | check =>
    rw [captureOwed_of_check hPoll hCap]
    omega
  | wait =>
    rw [captureOwed_of_wait hPoll hCap]
    omega

/-- A check that stores a byte is not owed any more; the delay it starts still is. -/
theorem progress_storeByte {s : State} (h : BlockInv s) (hCheck : s.capState = .check) {b : Byte} {rest : List Byte}
    (hQueue : s.rxq = b :: rest) : Progress s (storeByte b rest s) := by
  have hActive : capActive s = true := by simp [capActive, hCheck]
  refine ⟨blockInv_storeByte h hCheck hQueue, rfl, ?_⟩
  obtain ⟨hEnc, hPoll⟩ := encoder_of_capActive h hActive
  obtain ⟨⟨-, -, -, hRange, -⟩, -⟩ := h
  have hIter : s.iter.toNat < 256 := hRange hActive
  rw [owedEvents_of_not_emit hEnc, owedEvents_of_not_emit (s := storeByte b rest s) hEnc,
    captureOwed_of_check hPoll hCheck, captureOwed_of_wait (s := storeByte b rest s) hPoll rfl, storeByte_iter]
  omega

theorem progress_capCheck {s t : State} (h : BlockInv s) (hCheck : s.capState = .check)
    (ht : capCheck s = .next t) : Progress s t := by
  obtain ⟨hOther, -⟩ | ⟨-, -, rfl⟩ | ⟨-, -, b, rest, hQueue, rfl⟩ := capCheck_next ht
  · exact absurd hCheck hOther
  · have ⟨⟨_, hStored, _⟩, _⟩ := h
    exact progress_endIteration h (by simp [capActive, hCheck]) (Nat.le_succ_of_le (hStored (by simp [hCheck])))
  · exact progress_storeByte h hCheck hQueue

theorem progress_timerExpire {s t : State} (h : BlockInv s) (hWait : s.capState = .wait)
    (ht : timerExpire s = .next t) : Progress s t := by
  obtain ⟨hOther, -⟩ | ⟨-, rfl⟩ := timerExpire_next ht
  · exact absurd hWait hOther
  · have ⟨⟨_, _, hStored, _⟩, _⟩ := h
    exact progress_endIteration h (by simp [capActive, hWait]) (hStored hWait).2

/-- A byte the link took is not owed any more; with the terminator the pending capture is owed as it was while it was
pending. -/
theorem progress_txAccept {s t : State} (h : BlockInv s) (hEnc : s.encState = .emit)
    (ht : txAccept s = .next t) : Progress s t := by
  obtain ⟨hOther, -⟩ | ⟨-, v, -, rfl⟩ := txAccept_next ht
  · exact absurd hEnc hOther
  have ⟨_, ⟨hEmit, _⟩, _⟩ := h
  have hPos := hEmit hEnc
  have hLen : s.plen.toNat < 256 := s.plen.isLt
  have hNext : (s.ePos + 1#9).toNat = s.ePos.toNat + 1 := count_succ_toNat (by omega)
  have hCapture : captureOwed (emitByte v s) = captureOwed s := rfl
  split
  · next hLast =>
    refine ⟨blockInv_endEmission h v hLast, endEmission_agenda _, ?_⟩
    rw [owedEvents_of_emit hEnc, owedEvents_of_not_emit (by simp), captureOwed_endEmission, hCapture]
    omega
  · next hMore =>
    refine ⟨blockInv_emitByte h hEnc v (by omega), rfl, ?_⟩
    rw [owedEvents_of_emit hEnc, owedEvents_of_emit (s := emitByte v s) hEnc, hCapture, emitByte_plen, emitByte_ePos,
      hNext]
    omega

/-- R262: the enabled event is progress. -/
theorem exists_runInput_progress {s : State} {x : Input} (h : BlockInv s) (hx : enabledEvent s = some x) :
    ∃ t, runInput x s = .next t ∧ Progress s t := by
  obtain ⟨t, ht⟩ := exists_runInput_next h x
  refine ⟨t, ht, ?_⟩
  by_cases hEnc : s.encState = .emit
  · rw [enabledEvent_of_emit hEnc] at hx
    cases hx
    exact progress_txAccept h hEnc ht
  cases hCap : s.capState with
  | check =>
    rw [enabledEvent_of_check hEnc hCap] at hx
    cases hx
    exact progress_capCheck h hCap ht
  | wait =>
    rw [enabledEvent_of_wait hEnc hCap] at hx
    cases hx
    exact progress_timerExpire h hCap ht
  | cIdle | done =>
    rw [enabledEvent_of_inactive hEnc (by simp [capActive, hCap])] at hx
    cases hx

/-- Where no event is enabled, nothing is being sent, captured or pending. -/
theorem quiet_of_no_enabledEvent {s : State} (h : BlockInv s) (hx : enabledEvent s = none) :
    s.encState ≠ .emit ∧ capActive s = false ∧ s.pollPend = false := by
  obtain ⟨-, ⟨-, -, -, hPoll, -⟩, -⟩ := h
  have hEnc : s.encState ≠ .emit := fun hEmit => by simp [enabledEvent_of_emit hEmit] at hx
  refine ⟨hEnc, ?_, Bool.eq_false_iff.mpr fun hPend => hEnc (hPoll hPend)⟩
  cases hCap : s.capState with
  | check => simp [enabledEvent_of_check hEnc hCap] at hx
  | wait => simp [enabledEvent_of_wait hEnc hCap] at hx
  | cIdle | done => simp [capActive, hCap]

/-- R187: after at most as many steps as events are owed nothing is going on. -/
theorem exists_quiet {s : State} (h : BlockInv s) (ha : s.agenda = []) :
    ∃ k t, k ≤ owedEvents s ∧ runSteps k s = .next t ∧ t.encState ≠ .emit ∧ capActive t = false ∧
      t.pollPend = false := by
  induction hm : owedEvents s using Nat.strong_induction_on generalizing s with
  | _ m ih =>
    cases hx : enabledEvent s with
    | none => exact ⟨0, s, Nat.zero_le m, rfl, quiet_of_no_enabledEvent h hx⟩
    | some x =>
      obtain ⟨u, hu, hProgress⟩ := exists_runInput_progress (s := openPorts s) h hx
      have hOwed : owedEvents u < m := hm ▸ hProgress.owed
      obtain ⟨k, t, hk, hRun, hQuiet⟩ := ih _ hOwed hProgress.blockInv (hProgress.agenda.trans ha) rfl
      exact ⟨k + 1, t, by omega, (runSteps_succ ((step_of_enabledEvent ha hx).trans hu) k).trans hRun, hQuiet⟩

/-- Settles O59: a frame owes at most 273 bytes and a capture at most 512 events, and every step until then is one of
them. -/
theorem everyActivityEnds : Obligations.EveryActivityEnds := by
  intro s h ha
  refine ⟨?_, exists_quiet h ha⟩
  have hLen : s.plen.toNat < 256 := s.plen.isLt
  have hCapture := captureOwed_le s
  rw [owedEvents_eq]
  split <;> omega

end Sys2Proof.Machine
end

section
/-!
PROOF. One shift (`spec/40_checksum.md` R121), byte by byte as the document writes it and on the 16-bit register
`r1:r2` (R128).
-/

namespace Sys2Proof.Machine

/-- "The top bit was set", as a byte (R121). -/
theorem topBit_eq (v : Byte) : topBit v = if v.getLsbD 7 then 0x01#8 else 0x00#8 := by
  revert v
  decide

/-- R121, reading note (b): adding a bit to a byte whose bit 0 is free carries nothing. -/
theorem shiftLeft_add_bit (v : Byte) (x : Bool) :
    (v <<< 1) + (if x then 0x01#8 else 0x00#8) = (v <<< 1) ||| (if x then 0x01#8 else 0x00#8) := by
  apply BitVec.add_eq_or_of_and_eq_zero
  cases x
  · simp
  · apply BitVec.eq_of_getLsbD_eq
    intro i hi
    cases i <;> simp

/-- The two arms of the shift as one: the registers move left, and the feedback is XORed in where the top bit of `r1`
was set. -/
theorem Engine.shift_eq (e : Engine) : e.shift =
    { ckState := e.ckState
      r1 := ((e.r1 <<< 1) ||| topBit e.r2) ^^^ (if e.r1.getLsbD 7 then 0x10#8 else 0x00#8)
      r2 := ((e.r2 <<< 1) ||| topBit e.r3) ^^^ (if e.r1.getLsbD 7 then 0x41#8 else 0x00#8)
      r3 := e.r3 <<< 1
      r4 := e.r1 } := by
  have hTop : e.r1.msb = e.r1.getLsbD 7 := BitVec.msb_eq_getLsbD_last e.r1
  rw [Engine.shift, hTop]
  cases e.r1.getLsbD 7 <;> simp

/-- Settles O10: the shift's OR of a top bit is the document's "plus 1". -/
theorem shiftIsTheDocumentsBitStep : Obligations.ShiftIsTheDocumentsBitStep := by
  intro e
  rw [Engine.shift_eq, topBit_eq, topBit_eq, shiftLeft_add_bit, shiftLeft_add_bit]

/-- One shift on a 16-bit register, with `x` as the bit that comes in (R128). -/
def shiftIn (r : Word) (x : Bool) : Word :=
  ((r <<< 1) ||| (if x then 0x0001#16 else 0x0000#16)) ^^^ (if r.getLsbD 15 then 0x1041#16 else 0x0000#16)

/-- The register `r1:r2` (R128). -/
def Engine.word (e : Engine) : Word := e.r1 ++ e.r2

/-- Two bytes moved left side by side: the top bit of the low one goes to bit 0 of the high one. -/
theorem append_shiftLeft_one (a b : Byte) :
    (a ++ b : Word) <<< 1 = ((a <<< 1) ||| topBit b) ++ (b <<< 1) := by
  apply BitVec.eq_of_getLsbD_eq
  intro i hi
  rw [getLsbD_wordAppend, BitVec.getLsbD_shiftLeft, getLsbD_wordAppend, topBit, BitVec.getLsbD_or,
    BitVec.getLsbD_ushiftRight, BitVec.getLsbD_shiftLeft, BitVec.getLsbD_shiftLeft]
  obtain hLow | rfl | hHigh := Nat.lt_trichotomy i 8
  · have hBelow : i - 1 < 8 := by omega
    simp [hLow, hBelow, hi]
  · simp
  · obtain ⟨j, rfl⟩ := Nat.exists_eq_add_of_le' hHigh
    have hNone : b.getLsbD (7 + (j + 1)) = false := BitVec.getLsbD_of_ge _ _ (by omega)
    have hInside : j + 1 < 8 := by omega
    have hAbove : ¬ j + 9 < 8 := by omega
    simp [hNone, hInside, hAbove, hi]

/-- R128: the two registers `r1` and `r2` shift as one. -/
theorem Engine.word_shift (e : Engine) : e.shift.word = shiftIn e.word (e.r3.getLsbD 7) := by
  have hTop : BitVec.getLsbD (w := 16) (e.r1 ++ e.r2) 15 = e.r1.getLsbD 7 := getLsbD_wordAppend e.r1 e.r2 15
  have hIn (x : Bool) : (if x then 0x0001#16 else 0x0000#16) = 0x00#8 ++ (if x then 0x01#8 else 0x00#8) := by
    cases x <;> rfl
  have hFeedback (x : Bool) : (if x then 0x1041#16 else 0x0000#16) =
      (if x then 0x10#8 else 0x00#8) ++ (if x then 0x41#8 else 0x00#8) := by
    cases x <;> rfl
  rw [shiftIn, Engine.word, Engine.word, Engine.shift_eq, hTop, hIn, hFeedback, append_shiftLeft_one, BitVec.or_append,
    BitVec.xor_append, BitVec.or_zero, topBit_eq e.r3]

/-- Settles O11: the bit that comes in is the top bit of `r3`. -/
theorem shiftHasTheSixteenBitForm : Obligations.ShiftHasTheSixteenBitForm := by
  rintro e _ rfl
  exact e.word_shift

end Sys2Proof.Machine
end

section
/-!
PROOF. The checksum of `spec/40_checksum.md` R120 as a 16-bit register that takes the message in bit by bit (R128), and
the laws that follow (R127, R130, R131; `spec/41_encoder.md` R153, R154).
-/

namespace Sys2Proof.Machine

/-- The bits of a value, the highest first, in the order the engine takes them in. -/
def bits {n : Nat} (v : BitVec n) : List Bool := List.ofFn fun k : Fin n => v.getMsbD k

@[simp] theorem bits_length {n : Nat} (v : BitVec n) : (bits v).length = n := List.length_ofFn

theorem bits_injective {n : Nat} : Function.Injective (bits (n := n)) := by
  intro u v h
  apply BitVec.eq_of_getMsbD_eq
  intro i hi
  exact congrFun (List.ofFn_injective h) ⟨i, hi⟩

theorem bits_append {m n : Nat} (u : BitVec m) (v : BitVec n) : bits (u ++ v) = bits u ++ bits v := by
  apply List.ext_getElem
  · simp
  · intro i hi _
    simp only [bits, List.getElem_ofFn, List.getElem_append, BitVec.getMsbD_append, List.length_ofFn]
    by_cases h : m ≤ i
    · simp [h, Nat.not_lt.mpr h]
    · simp [h, Nat.lt_of_not_le h]

theorem bits_xor {n : Nat} (u v : BitVec n) : bits (u ^^^ v) = List.zipWith xor (bits u) (bits v) := by
  apply List.ext_getElem <;> simp [bits]

@[simp] theorem bits_zero (n : Nat) : bits (0#n) = List.replicate n false := by
  apply List.ext_getElem <;> simp [bits]

/-- The highest bit of the register is its bit 15. -/
theorem bits_eq_cons (r : Word) : bits r = r.getLsbD 15 :: (bits r).tail := rfl

/-- A register moved left with a bit put in: the highest bit is out, the new one is the last. -/
theorem bits_shiftLeft_or (r : Word) (x : Bool) :
    bits ((r <<< 1) ||| (if x then 0x0001#16 else 0x0000#16)) = (bits r).tail ++ [x] := by
  apply List.ext_getElem
  · simp
  · intro i hi _
    have hRange : i < 16 := by simpa using hi
    simp only [bits, List.getElem_ofFn, BitVec.getMsbD_or, BitVec.getMsbD_shiftLeft, List.getElem_append,
      List.getElem_tail, List.length_tail, List.length_ofFn]
    by_cases h : i < 15
    · have hNot : i ≠ 15 := by omega
      cases x <;> simp [h, hNot, BitVec.getMsbD_one]
    · obtain rfl : i = 15 := by omega
      cases x <;> simp

/-- Bytes taken into the register, each with its bit 7 first (R128). -/
def absorb (r : Word) (bs : List Byte) : Word := (bs.flatMap bits).foldl shiftIn r

theorem absorb_append (r : Word) (as bs : List Byte) : absorb r (as ++ bs) = absorb (absorb r as) bs := by
  rw [absorb, List.flatMap_append, List.foldl_append]
  rfl

theorem absorb_cons (r : Word) (b : Byte) (bs : List Byte) :
    absorb r (b :: bs) = absorb ((bits b).foldl shiftIn r) bs := by
  rw [absorb, List.flatMap_cons, List.foldl_append]
  rfl

/-- `n` shifts take the first `n` bits of `r3` in. -/
theorem Engine.word_shifts (n : Nat) (e : Engine) :
    (Engine.shifts n e).word = (List.ofFn fun k : Fin n => e.r3.getMsbD k).foldl shiftIn e.word := by
  induction n generalizing e with
  | zero => rfl
  | succ n ih =>
    have hNext (k : Nat) : e.shift.r3.getMsbD k = e.r3.getMsbD (k + 1) := by
      rw [Engine.shift_eq]
      exact BitVec.getMsbD_shiftLeft e.r3 1
    rw [Engine.shifts, ih, List.ofFn_succ, List.foldl_cons, Engine.word_shift]
    simp only [hNext]
    rfl

/-- The loop of R120 takes its bytes into the register. -/
theorem checksumLoop_eq_absorb (r1 r2 : Byte) (bs : List Byte) : checksumLoop r1 r2 bs = absorb (r1 ++ r2) bs := by
  induction bs generalizing r1 r2 with
  | nil => rfl
  | cons b bs ih =>
    rw [checksumLoop, ih, absorb_cons]
    exact congrArg (absorb · bs) (Engine.word_shifts 8 _)

/-- R121, reading note (b), on the 16-bit register: its bit 0 is free for the bit that comes in. -/
theorem shiftIn_eq_xor (r : Word) (x : Bool) :
    shiftIn r x =
      (r <<< 1) ^^^ (if x then 0x0001#16 else 0x0000#16) ^^^ (if r.getLsbD 15 then 0x1041#16 else 0x0000#16) := by
  have hFree : (r <<< 1) ||| 0x0001#16 = (r <<< 1) ^^^ 0x0001#16 := by
    apply BitVec.eq_of_getLsbD_eq
    intro i _
    cases i <;> simp
  cases x <;> simp [shiftIn, hFree]

/-- R130: a shift is linear in the register and the bit that comes in. -/
theorem shiftIn_xor (r q : Word) (x y : Bool) : shiftIn (r ^^^ q) (x ^^ y) = shiftIn r x ^^^ shiftIn q y := by
  have hBit (x y : Bool) (v : Word) :
      (if x ^^ y then v else 0x0000#16) = (if x then v else 0x0000#16) ^^^ (if y then v else 0x0000#16) := by
    cases x <;> cases y <;> simp
  rw [shiftIn_eq_xor, shiftIn_eq_xor, shiftIn_eq_xor, BitVec.shiftLeft_xor_distrib, BitVec.getLsbD_xor, hBit, hBit]
  ac_rfl

theorem foldl_shiftIn_xor {xs ys : List Bool} (h : xs.length = ys.length) (r q : Word) :
    (List.zipWith xor xs ys).foldl shiftIn (r ^^^ q) = xs.foldl shiftIn r ^^^ ys.foldl shiftIn q := by
  induction xs generalizing ys r q with
  | nil =>
    obtain rfl := List.length_eq_zero_iff.mp h.symm
    rfl
  | cons x xs ih =>
    cases ys with
    | nil => cases h
    | cons y ys =>
      rw [List.zipWith_cons_cons, List.foldl_cons, shiftIn_xor]
      exact ih (Nat.succ_inj.mp h) _ _

/-- R130: taking bytes in is linear in the register and the bytes. -/
theorem absorb_xor {as bs : List Byte} (h : as.length = bs.length) (r q : Word) :
    absorb (r ^^^ q) (List.zipWith (fun x y => x ^^^ y) as bs) = absorb r as ^^^ absorb q bs := by
  induction as generalizing bs r q with
  | nil =>
    obtain rfl := List.length_eq_zero_iff.mp h.symm
    rfl
  | cons a as ih =>
    cases bs with
    | nil => cases h
    | cons b bs =>
      rw [List.zipWith_cons_cons, absorb_cons, absorb_cons, absorb_cons, bits_xor, foldl_shiftIn_xor (by simp)]
      exact ih (Nat.succ_inj.mp h) _ _

/-- R124: with the top bit clear a shift is the move alone. -/
theorem bits_shiftIn_of_top {r : Word} (hTop : r.getLsbD 15 = false) (x : Bool) :
    bits (shiftIn r x) = (bits r).tail ++ [x] := by
  rw [shiftIn, hTop, if_neg Bool.false_ne_true, BitVec.xor_zero, bits_shiftLeft_or]

/-- R124: while no bit of the register has reached its top, the shifts only move the bits on. -/
theorem bits_foldl_shiftIn {r : Word} (xs : List Bool) {ys : List Bool}
    (h : bits r = List.replicate xs.length false ++ ys) : bits (xs.foldl shiftIn r) = ys ++ xs := by
  induction xs generalizing r ys with
  | nil => simpa using h
  | cons x xs ih =>
    rw [List.length_cons, List.replicate_succ, List.cons_append] at h
    have hTop : r.getLsbD 15 = false := (List.cons.inj ((bits_eq_cons r).symm.trans h)).1
    have hShift : bits (shiftIn r x) = List.replicate xs.length false ++ (ys ++ [x]) := by
      rw [bits_shiftIn_of_top hTop, h, List.tail_cons, List.append_assoc]
    rw [List.foldl_cons, ih hShift, List.append_assoc, List.singleton_append]

/-- R127: two bytes are their own checksum. -/
theorem absorb_zero_pair (a b : Byte) : absorb 0x0000#16 [a, b] = a ++ b := by
  apply bits_injective
  have hBits : [a, b].flatMap bits = bits a ++ bits b := by simp
  rw [absorb, hBits]
  exact (bits_foldl_shiftIn (bits a ++ bits b) (ys := []) (by simp)).trans (bits_append a b).symm

/-- R130: a leading zero byte leaves the empty register empty. -/
theorem absorb_zero_cons (bs : List Byte) : absorb 0x0000#16 (0x00#8 :: bs) = absorb 0x0000#16 bs := by
  have hZero : (bits 0x00#8).foldl shiftIn 0x0000#16 = 0x0000#16 := by decide
  rw [absorb_cons, hZero]

theorem eq_zero_of_shiftIn_eq_zero {d : Word} (h : shiftIn d false = 0x0000#16) : d = 0x0000#16 := by
  have hTop : d.getLsbD 15 = false := by
    have hBit := congrArg (BitVec.getLsbD · 0) h
    rw [shiftIn_eq_xor] at hBit
    cases hd : d.getLsbD 15 with
    | false => rfl
    | true => simp [hd] at hBit
  have hShift := bits_shiftIn_of_top hTop false
  rw [h, bits_zero] at hShift
  have hTail : List.replicate 15 false = (bits d).tail := List.append_cancel_right hShift
  apply bits_injective
  rw [bits_eq_cons, hTop, ← hTail, bits_zero]
  rfl

/-- R154: the feedback's bit 0 tells whether it was XORed in, so a shift loses nothing of the register. -/
theorem shiftIn_injective (x : Bool) : Function.Injective (shiftIn · x) := by
  intro r q h
  have hDiff : shiftIn (r ^^^ q) (x ^^ x) = 0x0000#16 := by
    rw [shiftIn_xor]
    exact BitVec.xor_eq_zero_iff.mpr h
  rw [Bool.xor_self] at hDiff
  exact BitVec.xor_eq_zero_iff.mp (eq_zero_of_shiftIn_eq_zero hDiff)

theorem foldl_shiftIn_injective (xs : List Bool) : Function.Injective (xs.foldl shiftIn ·) := by
  induction xs with
  | nil => exact Function.injective_id
  | cons x xs ih => exact ih.comp (shiftIn_injective x)

/-- R154: whatever bytes come in, different registers stay different. -/
theorem absorb_injective (bs : List Byte) : Function.Injective (absorb · bs) := foldl_shiftIn_injective _

/-- R154: two sequences of one length give the same register exactly when their difference gives none. -/
theorem absorb_eq_absorb_iff {as bs : List Byte} (h : as.length = bs.length) (r : Word) :
    absorb r as = absorb r bs ↔ absorb 0x0000#16 (List.zipWith (fun x y => x ^^^ y) as bs) = 0x0000#16 := by
  have hDiff := absorb_xor h r r
  rw [BitVec.xor_self] at hDiff
  rw [hDiff, BitVec.xor_eq_zero_iff]

/-- R120, R128: the checksum of at least two bytes is what the empty register holds after taking them in. -/
theorem checksum_eq_absorb {bs : List Byte} (h : 2 ≤ bs.length) : checksum bs = some (absorb 0x0000#16 bs) := by
  match bs with
  | b0 :: b1 :: rest =>
    rw [checksum, checksumLoop_eq_absorb, ← absorb_zero_pair, ← absorb_append]
    rfl
  | [_] => simp at h
  | [] => simp at h

/-- Settles O52: taking bytes into the empty register is linear, and a zero byte leaves it empty. -/
theorem checksumIsLinear : Obligations.ChecksumIsLinear := by
  constructor
  · intro a b hLength hTwo
    refine ⟨_, _, checksum_eq_absorb hTwo, checksum_eq_absorb (hLength ▸ hTwo), ?_⟩
    rw [checksum_eq_absorb (by simpa [hLength] using hTwo), ← absorb_xor hLength, BitVec.xor_self]
  · intro b hTwo
    rw [checksum_eq_absorb hTwo, checksum_eq_absorb (bs := 0x00#8 :: b) (Nat.le_succ_of_le hTwo), absorb_zero_cons]

/-- Settles O53: by linearity the last two bytes are XORed onto the checksum of the zero-padded sequence. -/
theorem checksumHasZeroResidue : Obligations.ChecksumHasZeroResidue := by
  intro s
  refine ⟨_, checksum_eq_absorb (by simp), fun hi lo => ?_⟩
  have hSplit := absorb_xor (as := [0x00#8, 0x00#8]) (bs := [hi, lo]) rfl (absorb 0x0000#16 s) 0x0000#16
  simp only [List.zipWith_cons_cons, List.zipWith_nil_left, BitVec.zero_xor, BitVec.xor_zero,
    absorb_zero_pair] at hSplit
  rw [checksum_eq_absorb (by simp), Option.some_inj, absorb_append, absorb_append, hSplit, BitVec.xor_eq_zero_iff]
  exact eq_comm

theorem word_append_inj {a b c d : Byte} (h : (a ++ b : Word) = c ++ d) : a = c ∧ b = d := by
  constructor
  · rw [← wordHi_append a b, h, wordHi_append]
  · rw [← wordLo_append a b, h, wordLo_append]

/-- Settles O55: the spans of two device ids differ in their first byte alone, which the register keeps apart. -/
theorem fixedTelemetryChecksumFitsOneDevice : Obligations.FixedTelemetryChecksumFitsOneDevice := by
  intro d
  have hFixed : checksum (span 0x16#8 0xA0#8 []) = some 0xB1A7#16 := by decide +kernel
  refine ⟨fun h => ?_, fun h => h ▸ hFixed⟩
  rw [← hFixed, checksum_eq_absorb (by simp), checksum_eq_absorb (by simp), Option.some_inj] at h
  have hSeed : absorb 0x0000#16 [d, 0xA0#8] = absorb 0x0000#16 [0x16#8, 0xA0#8] :=
    absorb_injective [0x00#8, 0x00#8, 0x00#8] h
  rw [absorb_zero_pair, absorb_zero_pair] at hSeed
  exact (word_append_inj hSeed).1

/-- R141: a span comes in as its three envelope bytes, its payload, and two zero bytes. -/
theorem absorb_span (d c : Byte) (p : List Byte) (r : Word) :
    absorb r (span d c p) = absorb (absorb (absorb r [d, c, BitVec.ofNat 8 p.length]) p) [0x00#8, 0x00#8] := by
  rw [span, absorb_append, absorb_append]

/-- R154: with one device id, command code and length, the checksums are the same exactly when the register ends empty
on the payloads' difference. -/
theorem checksum_span_eq_iff (d c : Byte) {p q : List Byte} (h : p.length = q.length) :
    checksum (span d c p) = checksum (span d c q) ↔
      absorb 0x0000#16 (List.zipWith (fun x y => x ^^^ y) p q) = 0x0000#16 := by
  rw [checksum_eq_absorb (by simp), checksum_eq_absorb (by simp), Option.some_inj, absorb_span, absorb_span, h,
    (absorb_injective _).eq_iff, absorb_eq_absorb_iff h]

/-- R154(a): up to two bytes stand in the register as they are, so only the zero difference leaves it empty. -/
theorem eq_of_absorb_zipWith_xor {p q : List Byte} (hLength : p.length = q.length) (hShort : p.length ≤ 2)
    (h : absorb 0x0000#16 (List.zipWith (fun x y => x ^^^ y) p q) = 0x0000#16) : p = q := by
  have hPair {a b : Byte} (h : absorb 0x0000#16 [a, b] = 0x0000#16) : a = 0x00#8 ∧ b = 0x00#8 :=
    word_append_inj ((absorb_zero_pair a b).symm.trans h)
  match p, q with
  | [], [] => rfl
  | [x], [y] =>
    obtain ⟨-, hx⟩ := hPair ((absorb_zero_cons _).trans h)
    rw [BitVec.xor_eq_zero_iff.mp hx]
  | [x0, x1], [y0, y1] =>
    obtain ⟨h0, h1⟩ := hPair h
    rw [BitVec.xor_eq_zero_iff.mp h0, BitVec.xor_eq_zero_iff.mp h1]
  | _ :: _ :: _ :: _, _ => simp at hShort

/-- Settles O56: the register tells differences of up to two bytes from zero, and `01 10 41` is `P(x)` itself. -/
theorem shortPayloadsHaveDistinctChecksums : Obligations.ShortPayloadsHaveDistinctChecksums := by
  constructor
  · intro d c p q hLength hShort h
    exact eq_of_absorb_zipWith_xor hLength hShort ((checksum_span_eq_iff d c hLength).mp h)
  · intro d c
    exact (checksum_span_eq_iff d c (p := [0x00#8, 0x00#8, 0x00#8]) (q := [0x01#8, 0x10#8, 0x41#8]) rfl).mpr
      (by decide +kernel)

end Sys2Proof.Machine
end

section
/-!
PROOF. The commands of the checksum engine (`spec/40_checksum.md` R123 to R127).
-/

namespace Sys2Proof.Machine

/-- R55: the last two bits of the view are `CK_STATE`. -/
theorem statusView_ckState (s : State) : (statusView s).extractLsb' 0 2 = ckCode s.ckState :=
  BitVec.extractLsb'_append_eq_right

/-- Settles O8: the command has no condition to fail, and neither the view's other bits nor a frame byte is read from
the engine. -/
theorem ckInitClearsTheEngine : Obligations.CkInitClearsTheEngine :=
  fun v s => ⟨decodeCommand_append 0x01#8 v, effect (.ckInit v) s, rfl, rfl, statusView_ckState _, fun _ => rfl⟩

/-- Settles O9: the three cases of the feed on the engine, put back into the state. -/
theorem ckFeedAbsorbsOneByte : Obligations.CkFeedAbsorbsOneByte := by
  intro b s
  have hExec : exec (.ckFeed b) s = .next (setEngine ((engineOf s).feed b) s) := rfl
  refine ⟨decodeCommand_append 0x02#8 b, fun h => ?empty, fun h => ?one, fun h => ?run⟩
  case empty =>
    have hFeed : (engineOf s).feed b = { engineOf s with r1 := b, ckState := .one } := by
      simp [Engine.feed, engineOf, h]
    rw [hExec, hFeed]
    rfl
  case one =>
    have hFeed : (engineOf s).feed b = { engineOf s with r2 := b, ckState := .run } := by
      simp [Engine.feed, engineOf, h]
    rw [hExec, hFeed]
    rfl
  case run =>
    rw [hExec, Engine.feed_run b h, ← h]
    rfl

/-- Settles O12: in `RUN` neither read meets its condition of R221; elsewhere both take `CK_SHORT` with their own
word. -/
theorem ckReadsAnswerTheChecksum : Obligations.CkReadsAnswerTheChecksum := by
  intro v s
  refine ⟨decodeCommand_append 0x03#8 v, decodeCommand_append 0x04#8 v, fun hRun => ?_, fun hShort => ?_⟩
  · exact ⟨exec_of_faultOf_eq_none (if_pos hRun), exec_of_faultOf_eq_none (if_pos hRun)⟩
  · exact ⟨(if_pos hShort).trans rfl, (if_pos hShort).trans rfl⟩

/-- R127: a byte sequence has a checksum from two bytes on. -/
theorem checksum_isSome_iff (bs : List Byte) : (checksum bs).isSome = true ↔ 2 ≤ bs.length := by
  match bs with
  | [] | [_] | _ :: _ :: _ => simp [checksum]

/-- R123, R124: a cleared engine is in `RUN` from the second byte on. -/
theorem Engine.clear_feedAll_run_iff (e : Engine) (bs : List Byte) :
    (e.clear.feedAll bs).ckState = .run ↔ 2 ≤ bs.length := by
  match bs with
  | [] => simp [Engine.clear]
  | [_] => simp [Engine.clear, Engine.feed]
  | _ :: _ :: _ => exact iff_of_true (e.clear_feedAll_run (by simp)) (by simp)

/-- Settles O13: the function and the engine both begin with the second byte. -/
theorem checksumNeedsTwoBytes : Obligations.ChecksumNeedsTwoBytes :=
  ⟨fun _ _ => rfl, checksum_isSome_iff, Engine.clear_feedAll_run_iff⟩

end Sys2Proof.Machine
end

section
/-!
PROOF. The checksum as a remainder of polynomials over GF(2) (`spec/40_checksum.md` R129).
-/

namespace Sys2Proof.Machine

open Polynomial

/-- A bit as a coefficient. -/
noncomputable def bitPoly (x : Bool) : (ZMod 2)[X] := if x then 1 else 0

/-- One more bit of a message, highest degree first (R129). -/
noncomputable def addBit (p : (ZMod 2)[X]) (x : Bool) : (ZMod 2)[X] := p * X + bitPoly x

/-- The polynomial of a message's bits, highest degree first (R129). -/
noncomputable def bitsPoly (xs : List Bool) : (ZMod 2)[X] := xs.foldl addBit 0

/-- `P(x)` of R129. -/
noncomputable def generator : (ZMod 2)[X] := X ^ 16 + X ^ 12 + X ^ 6 + 1

theorem generator_degree : generator.degree = 16 := by
  unfold generator
  compute_degree!

theorem generator_monic : generator.Monic := by
  unfold generator
  monicity!

theorem bitPoly_xor (x y : Bool) : bitPoly (x ^^ y) = bitPoly x + bitPoly y := by
  cases x <;> cases y <;> simp [bitPoly, CharTwo.add_self_eq_zero]

theorem bitsPoly_concat (xs : List Bool) (x : Bool) : bitsPoly (xs ++ [x]) = bitsPoly xs * X + bitPoly x :=
  List.foldl_concat addBit 0 x xs

theorem bitsPoly_cons (x : Bool) (xs : List Bool) : bitsPoly (x :: xs) = bitPoly x * X ^ xs.length + bitsPoly xs := by
  induction xs using List.reverseRecOn with
  | nil => simp [bitsPoly, addBit]
  | append_singleton xs y ih =>
    rw [← List.cons_append, bitsPoly_concat, ih, bitsPoly_concat, List.length_append, List.length_singleton]
    ring

theorem bitsPoly_zipWith_xor {xs ys : List Bool} (h : xs.length = ys.length) :
    bitsPoly (List.zipWith xor xs ys) = bitsPoly xs + bitsPoly ys := by
  induction xs generalizing ys with
  | nil =>
    obtain rfl := List.length_eq_zero_iff.mp h.symm
    simp [bitsPoly]
  | cons x xs ih =>
    cases ys with
    | nil => cases h
    | cons y ys =>
      have hTail : xs.length = ys.length := Nat.succ_inj.mp h
      rw [List.zipWith_cons_cons, bitsPoly_cons, bitsPoly_cons, bitsPoly_cons, ih hTail, List.length_zipWith, hTail,
        Nat.min_self, bitPoly_xor]
      ring

/-- `n` bits have a polynomial of degree below `n`. -/
theorem bitsPoly_degree_lt (xs : List Bool) : (bitsPoly xs).degree < (xs.length : WithBot ℕ) := by
  induction xs with
  | nil => simp [bitsPoly]
  | cons x xs ih =>
    have hGrow : (xs.length : WithBot ℕ) < ((x :: xs).length : WithBot ℕ) := by
      exact_mod_cast xs.length.lt_succ_self
    have hHead : (bitPoly x * X ^ xs.length).degree ≤ (xs.length : WithBot ℕ) := by
      cases x <;> simp [bitPoly]
    rw [bitsPoly_cons]
    exact (degree_add_le _ _).trans_lt (max_lt (hHead.trans_lt hGrow) (ih.trans hGrow))

/-- The feedback is the generator without its highest term. -/
theorem bitsPoly_feedback (x : Bool) :
    bitsPoly (bits (if x then 0x1041#16 else 0x0000#16)) = bitPoly x * (generator - X ^ 16) := by
  cases x
  · simp [bitsPoly, bitPoly, addBit]
  · have hBits : bits 0x1041#16 = [false, false, false, true, false, false, false, false, false, true, false, false,
      false, false, false, true] := by decide
    rw [if_pos rfl, hBits, bitPoly, if_pos rfl, generator]
    simp only [bitsPoly, List.foldl_cons, List.foldl_nil, addBit, bitPoly, if_true, Bool.false_eq_true, if_false]
    ring

/-- R128, R129: a shift takes one more bit of the message in and then the generator off, where the highest term came
up to degree 16. -/
theorem bitsPoly_shiftIn (r : Word) (x : Bool) :
    bitsPoly (bits (shiftIn r x)) = addBit (bitsPoly (bits r)) x + bitPoly (r.getLsbD 15) * generator := by
  have hMoved : bitsPoly (bits r) = bitPoly (r.getLsbD 15) * X ^ 15 + bitsPoly (bits r).tail := by
    rw [bits_eq_cons, bitsPoly_cons]
    simp
  have hTwo : (2 : (ZMod 2)[X]) = 0 := CharTwo.two_eq_zero
  rw [shiftIn, bits_xor, bitsPoly_zipWith_xor (by simp), bits_shiftLeft_or, bitsPoly_concat, bitsPoly_feedback, addBit,
    hMoved]
  linear_combination (-bitPoly (r.getLsbD 15) * X ^ 16) * hTwo

/-- R129: taking bits into the register keeps its polynomial modulo the generator that of the message. -/
theorem generator_dvd_foldl (xs : List Bool) {p : (ZMod 2)[X]} {r : Word} (h : generator ∣ p - bitsPoly (bits r)) :
    generator ∣ xs.foldl addBit p - bitsPoly (bits (xs.foldl shiftIn r)) := by
  induction xs generalizing p r with
  | nil => exact h
  | cons x xs ih =>
    refine ih ?_
    have hStep : addBit p x - bitsPoly (bits (shiftIn r x)) =
        (p - bitsPoly (bits r)) * X - bitPoly (r.getLsbD 15) * generator := by
      rw [bitsPoly_shiftIn, addBit, addBit]
      ring
    rw [hStep]
    exact dvd_sub (h.mul_right X) (dvd_mul_left _ _)

/-- R129: a register has fewer bits than the generator's degree, so it is a remainder. -/
theorem bitsPoly_modByMonic (w : Word) : bitsPoly (bits w) %ₘ generator = bitsPoly (bits w) := by
  rw [modByMonic_eq_self_iff generator_monic, generator_degree]
  simpa using bitsPoly_degree_lt (bits w)

/-- R129: what the empty register holds after taking bytes in is the remainder of their polynomial. -/
theorem bitsPoly_absorb (bs : List Byte) :
    bitsPoly (bits (absorb 0x0000#16 bs)) = bitsPoly (bs.flatMap bits) %ₘ generator := by
  have hEmpty : generator ∣ 0 - bitsPoly (bits 0x0000#16) := by simp [bitsPoly, addBit, bitPoly]
  rw [← bitsPoly_modByMonic]
  exact (modByMonic_eq_of_dvd_sub generator_monic (generator_dvd_foldl (bs.flatMap bits) hEmpty)).symm

/-- Settles O54: a sequence with a checksum has at least two bytes, and its checksum is the register that took them
in. -/
theorem checksumIsThePolynomialRemainder : Obligations.ChecksumIsThePolynomialRemainder := by
  intro bs w hw
  have hTwo : 2 ≤ bs.length := (checksum_isSome_iff bs).mp (by rw [hw]; rfl)
  rw [checksum_eq_absorb hTwo] at hw
  cases hw
  exact bitsPoly_absorb bs

end Sys2Proof.Machine
end

section
/-!
PROOF. What a command that meets no condition of `spec/60_exceptions.md` R221 leaves of the fault record.
-/

namespace Sys2Proof.Machine

/-- R221, R228: no command's effect but that of `RESET` writes the fault record. -/
theorem effect_faultRegisters {i : Instr} (hi : ∀ v, i ≠ .reset v) (s : State) :
    faultRegisters (effect i s) = faultRegisters s := by
  cases i with
  | reset v => exact absurd rfl (hi v)
  | _ => rfl

/-- Settles O30: a command either takes the fault of its row or has its effect, which raises none. -/
theorem noFaultOutsideTheTable : Obligations.NoFaultOutsideTheTable := by
  intro i s
  cases hf : faultOf s i with
  | some f => exact ⟨_, by rw [exec_eq, hf]; exact raise_eq i f s, rfl, nofun⟩
  | none =>
    refine ⟨_, exec_of_faultOf_eq_none hf, effect_raised i s, fun _ hi => ?_⟩
    simpa [faultRegisters] using effect_faultRegisters hi s

end Sys2Proof.Machine
end

section
/-!
PROOF. Who writes the engine and `DEVID` (`spec/40_checksum.md` R122, R133; `spec/10_state.md` R36).
-/

namespace Sys2Proof.Machine

/-- R122, R133: a command that does not write the engine anew feeds it at most the byte of its `CK_FEED`. -/
theorem exec_engineOf {x : Input} {i : Instr} {s t : State} (hi : inputInstr x = some i) (hx : clearsEngine x = false)
    (h : exec i s = .next t) : engineOf t = (engineOf s).feedAll (fedByte x).toList := by
  cases i with
  | ckInit _ | encSend _ | encManual _ | reset _ => simp [clearsEngine, hi] at hx
  | ckFeed b =>
    cases h
    rw [fedByte, hi]
    rfl
  | _ => obtain ⟨f, -, rfl⟩ | ⟨-, rfl⟩ := exec_next h <;> (rw [fedByte, hi]; rfl)

/-- R36: no command but `CFG_DEVID` and `RESET` has an effect on `DEVID`. -/
theorem effect_devId {i : Instr} (hConfig : ∀ d, i ≠ .cfgDevId d) (hReset : ∀ v, i ≠ .reset v) (s : State) :
    (effect i s).devId = s.devId := by
  cases i with
  | cfgDevId d => exact absurd rfl (hConfig d)
  | reset v => exact absurd rfl (hReset v)
  | _ => rfl

theorem exec_devId {i : Instr} {s t : State} (hConfig : ∀ d, i ≠ .cfgDevId d) (hReset : ∀ v, i ≠ .reset v)
    (h : exec i s = .next t) : t.devId = s.devId := by
  obtain ⟨f, -, rfl⟩ | ⟨-, rfl⟩ := exec_next h
  · rfl
  · exact effect_devId hConfig hReset s

@[simp] theorem endEmission_engineOf (s : State) : engineOf (endEmission s) = engineOf s := by
  cases h : s.pollPend with
  | false => rw [endEmission_of_not_pend h]; rfl
  | true => rw [endEmission_of_pend h]; rfl

@[simp] theorem endEmission_devId (s : State) : (endEmission s).devId = s.devId := by
  cases h : s.pollPend with
  | false => rw [endEmission_of_not_pend h]
  | true => rw [endEmission_of_pend h]; rfl

/-- R133: an event or an unassigned opcode leaves the engine, `DEVID` and the agenda. -/
theorem runPlain_frame {x : Input} {s t : State} (h : runPlain x s = .next t) :
    engineOf t = engineOf s ∧ t.devId = s.devId ∧ t.agenda = s.agenda := by
  cases x with
  | command w =>
    cases h
    exact ⟨rfl, rfl, rfl⟩
  | rxArrive b =>
    cases h
    exact ⟨rfl, rfl, rfl⟩
  | txAccept =>
    obtain ⟨-, rfl⟩ | ⟨-, v, -, rfl⟩ := txAccept_next h
    · exact ⟨rfl, rfl, rfl⟩
    · split
      · exact ⟨endEmission_engineOf _, endEmission_devId _, endEmission_agenda _⟩
      · exact ⟨rfl, rfl, rfl⟩
  | capCheck =>
    obtain ⟨-, rfl⟩ | ⟨-, -, rfl⟩ | ⟨-, -, b, rest, -, rfl⟩ := capCheck_next h <;> exact ⟨rfl, rfl, rfl⟩
  | timerExpire =>
    obtain ⟨-, rfl⟩ | ⟨-, rfl⟩ := timerExpire_next h <;> exact ⟨rfl, rfl, rfl⟩

/-- Everything an input can do: execute the instruction it brings, or have its plain effect. -/
theorem runInput_next {x : Input} {s t : State} (h : runInput x s = .next t) :
    (∃ i, inputInstr x = some i ∧ exec i s = .next t) ∨ (inputInstr x = none ∧ runPlain x s = .next t) := by
  cases hi : inputInstr x with
  | some i => exact .inl ⟨i, rfl, (runInput_of_inputInstr hi s).symm.trans h⟩
  | none => exact .inr ⟨rfl, (runInput_of_inputInstr_eq_none hi s).symm.trans h⟩

/-- R122: the engine after an input that does not write it anew. -/
theorem runInput_engineOf {x : Input} {s t : State} (hx : clearsEngine x = false) (h : runInput x s = .next t) :
    engineOf t = (engineOf s).feedAll (fedByte x).toList := by
  obtain ⟨i, hi, hExec⟩ | ⟨hNone, hPlain⟩ := runInput_next h
  · exact exec_engineOf hi hx hExec
  · obtain ⟨hEngine, -, -⟩ := runPlain_frame hPlain
    rw [fedByte, hNone]
    exact hEngine

theorem runInput_devId {x : Input} {s t : State} (hConfig : ∀ d, inputInstr x ≠ some (.cfgDevId d))
    (hReset : isReset x = false) (h : runInput x s = .next t) : t.devId = s.devId := by
  obtain ⟨i, hi, hExec⟩ | ⟨-, hPlain⟩ := runInput_next h
  · exact exec_devId (fun d hd => hConfig d (hi.trans (congrArg some hd))) (ne_reset_of_isReset_eq_false hReset hi)
      hExec
  · obtain ⟨-, hDev, -⟩ := runPlain_frame hPlain
    exact hDev

/-- Settles O43: taking the input leaves the engine and `DEVID`, and an input that is none of their writers does too. -/
theorem engineAndDeviceIdWriters : Obligations.EngineAndDeviceIdWriters := by
  intro s t u x hu hs
  rw [step_of_takeInput hu] at hs
  obtain rfl := takeInput_eq_openPorts hu
  refine ⟨fun hClears hFed => ?_, fun hConfig hReset => (runInput_devId hConfig hReset hs).trans rfl⟩
  have hEngine := runInput_engineOf hClears hs
  rw [hFed] at hEngine
  exact hEngine

end Sys2Proof.Machine
end

section
/-!
PROOF. Every input keeps the invariant (`spec/10_state.md` R45, R60, as logs 9 and 10 correct them).
-/

namespace Sys2Proof.Machine

theorem faultCode_ne_zero (f : FaultKind) : faultCode f ≠ 0x00#8 := by
  cases f <;> decide

theorem faultCode_toNat_le (f : FaultKind) : (faultCode f).toNat ≤ 6 := by
  cases f <;> decide

theorem errBit_toNat_lt (f : FaultKind) : (errBit f).toNat < 64 := by
  cases f <;> decide

/-- R224: a fault taken into the record leaves it consistent: a bit in `ERR`, and the first fault's code. -/
theorem faultInv_recordFault {s : State} (h : FaultInv s) (f : FaultKind) (w : Word) :
    FaultInv (recordFault f w s) := by
  obtain ⟨hCause, hErr, hCode, -⟩ := h
  have hNe : s.err ||| errBit f ≠ 0x00#8 := by simp [BitVec.or_eq_zero_iff, errBit_ne_zero]
  refine ⟨iff_of_false hNe ?_, ?_, ?_, fun h => absurd h hNe⟩
  · rw [recordFault_firstErr]
    split
    · exact faultCode_ne_zero f
    · next hFirst => exact mt hCause.mpr hFirst
  · rw [recordFault_err, BitVec.toNat_or]
    exact Nat.or_lt_two_pow (n := 6) hErr (errBit_toNat_lt f)
  · rw [recordFault_firstErr]
    split
    · exact faultCode_toNat_le f
    · exact hCode

theorem blockInv_recordFault {s : State} (h : BlockInv s) (f : FaultKind) (w : Word) :
    BlockInv (recordFault f w s) := by
  obtain ⟨hCapture, hEncoder, hFault, hStore⟩ := h
  exact ⟨hCapture, hEncoder, faultInv_recordFault hFault f w, hStore⟩

/-- R176: the queue takes no byte beyond `RX_DEPTH`. -/
theorem blockInv_receiveByte {s : State} (h : BlockInv s) (b : Byte) : BlockInv (receiveByte b s) := by
  obtain ⟨hCapture, hEncoder, hFault, hBufWf, hBufSize, hPbufWf, hPbufSize, hDepth, hLength⟩ := h
  refine ⟨hCapture, hEncoder, hFault, hBufWf, hBufSize, hPbufWf, hPbufSize, hDepth, ?_⟩
  simp only [receiveByte]
  split
  · next hRoom => simpa using hRoom
  · exact hLength

/-- R147: the start of an emission with no capture active puts the encoder in range, wherever `E_POS` was. -/
theorem encoderInv_of_emission {s t : State} (hActive : capActive s = false) (hEmit : t.encState = .emit)
    (hPos : t.ePos = 0#9) (hCap : t.capState = s.capState) : EncoderInv t := by
  have hQuiet : capActive t = false := by rw [← hActive, capActive, hCap, capActive]
  refine ⟨?_, ?_, ?_, fun _ => hEmit, ?_⟩ <;> simp [hPos, hEmit, hQuiet]

/-- R44: outside `EMIT` no capture is pending, so with the encoder in `ASSEMBLE` its invariant is the bound on
`E_POS`. -/
theorem encoderInv_of_assemble {s t : State} (h : EncoderInv s) (hEnc : s.encState ≠ .emit)
    (hAssemble : t.encState = .assemble) (hPos : t.ePos = s.ePos) (hPoll : t.pollPend = s.pollPend) : EncoderInv t := by
  obtain ⟨-, -, hBound, hPend, -⟩ := h
  refine ⟨?_, ?_, hPos ▸ hBound, fun hTrue => absurd (hPend (hPoll ▸ hTrue)) hEnc, ?_⟩ <;> simp [hAssemble]

theorem encPush_guards {s : State} {b : Byte} (hf : faultOf s (.encPush b) = none) :
    s.encState = .assemble ∧ s.plen.toNat < 255 := by
  have hLen : s.plen.toNat < 256 := s.plen.isLt
  cases hEnc : s.encState with
  | idle | emit => simp [faultOf, hEnc] at hf
  | assemble =>
    simp only [faultOf, hEnc, ite_eq_right_iff, reduceCtorEq, imp_false] at hf
    exact ⟨rfl, by omega⟩

/-- R221: a command that meets no condition of its row keeps the invariant. -/
theorem blockInv_effect {i : Instr} {s : State} (h : BlockInv s) (hf : faultOf s i = none) : BlockInv (effect i s) := by
  have ⟨hCapture, hEncoder, hFault, hStore⟩ := h
  have ⟨hBufWf, hBufSize, hPbufWf, hPbufSize, hDepth, hLength⟩ := hStore
  cases i with
  | encBegin c =>
    have hEnc : s.encState ≠ .emit := by simpa [faultOf] using hf
    exact ⟨hCapture, encoderInv_of_assemble hEncoder hEnc rfl rfl rfl, hFault, hStore⟩
  | encPush b =>
    obtain ⟨hEnc, hLen⟩ := encPush_guards hf
    exact ⟨hCapture, encoderInv_of_assemble hEncoder (by simp [hEnc]) hEnc rfl rfl, hFault, hBufWf, hBufSize,
      Memory.wf_write _ b hPbufWf, Memory.below_write b hLen hPbufSize, hDepth, hLength⟩
  | encSend v =>
    have hActive : capActive s = false := by
      cases hEnc : s.encState <;> cases hCap : capActive s <;> simp [faultOf, hEnc, hCap] at hf ⊢
    exact ⟨hCapture, encoderInv_of_emission hActive rfl rfl rfl, hFault, hStore⟩
  | encTelem v | poll v =>
    obtain ⟨-, hActive⟩ : s.encState = .idle ∧ capActive s = false := by simpa [faultOf] using hf
    exact ⟨hCapture, encoderInv_of_emission hActive rfl rfl rfl, hFault, hStore⟩
  | encManual v =>
    have hSel : ¬ 1 < v.toNat := fun hSel => by simp [faultOf, hSel] at hf
    obtain ⟨-, hActive⟩ : s.encState = .idle ∧ capActive s = false := by simpa [faultOf, hSel] using hf
    exact ⟨hCapture, encoderInv_of_emission hActive rfl rfl rfl, hFault, hBufWf, hBufSize,
      Memory.wf_write _ v hPbufWf, Memory.below_write v (by decide) hPbufSize, hDepth, hLength⟩
  | capStart v =>
    obtain ⟨hEnc, -⟩ : s.encState ≠ .emit ∧ capActive s = false := by simpa [faultOf] using hf
    obtain ⟨hEmit, hIdle, hPos, hPoll, -⟩ := hEncoder
    exact ⟨by simp [CaptureInv, effect, startCapture, capActive, capacity],
      ⟨hEmit, hIdle, hPos, hPoll, fun hBoth => hEnc hBoth.1⟩, hFault, hStore⟩
  | reset v => exact blockInv_powerOn s.agenda hDepth
  | wireTelemetryRequest | wireManualControl => exact blockInv_receiveByte h _
  | _ => exact h

theorem blockInv_exec {i : Instr} {s t : State} (h : BlockInv s) (ht : exec i s = .next t) : BlockInv t := by
  obtain ⟨f, -, rfl⟩ | ⟨hf, rfl⟩ := exec_next ht
  · exact blockInv_recordFault h f (commandWord i)
  · exact blockInv_effect h hf

/-- Events and unassigned opcodes keep the invariant; an enabled event is also progress. -/
theorem blockInv_runPlain {x : Input} {s t : State} (h : BlockInv s) (ht : runPlain x s = .next t) : BlockInv t := by
  cases x with
  | command w =>
    cases ht
    exact blockInv_recordFault h .illegalCmd w
  | rxArrive b =>
    cases ht
    exact blockInv_receiveByte h b
  | txAccept =>
    obtain ⟨-, rfl⟩ | ⟨hEnc, -⟩ := txAccept_next ht
    · exact h
    · exact (progress_txAccept h hEnc ht).blockInv
  | capCheck =>
    obtain ⟨-, rfl⟩ | ⟨hCap, -⟩ | ⟨hCap, -⟩ := capCheck_next ht
    · exact h
    · exact (progress_capCheck h hCap ht).blockInv
    · exact (progress_capCheck h hCap ht).blockInv
  | timerExpire =>
    obtain ⟨-, rfl⟩ | ⟨hCap, -⟩ := timerExpire_next ht
    · exact h
    · exact (progress_timerExpire h hCap ht).blockInv

/-- Every input keeps the invariant. -/
theorem blockInv_runInput {x : Input} {s t : State} (h : BlockInv s) (ht : runInput x s = .next t) : BlockInv t := by
  obtain ⟨i, -, hExec⟩ | ⟨-, hPlain⟩ := runInput_next ht
  · exact blockInv_exec h hExec
  · exact blockInv_runPlain h hPlain

end Sys2Proof.Machine
end

section
/-!
PROOF. Runs over an agenda (`spec/00_scope.md` R10), and the engine over them (`spec/40_checksum.md` R122).
-/

namespace Sys2Proof.Machine

theorem effect_agenda (i : Instr) (s : State) : (effect i s).agenda = s.agenda := by
  cases i <;> rfl

theorem exec_agenda {i : Instr} {s t : State} (h : exec i s = .next t) : t.agenda = s.agenda := by
  obtain ⟨f, -, rfl⟩ | ⟨-, rfl⟩ := exec_next h
  · rfl
  · exact effect_agenda i s

/-- An input puts nothing on the agenda and takes nothing off it. -/
theorem runInput_agenda {x : Input} {s t : State} (h : runInput x s = .next t) : t.agenda = s.agenda := by
  obtain ⟨i, -, hExec⟩ | ⟨-, hPlain⟩ := runInput_next h
  · exact exec_agenda hExec
  · obtain ⟨-, -, hAgenda⟩ := runPlain_frame hPlain
    exact hAgenda

/-- A step over an agenda in a state of the invariant: it runs the first input, goes on to a state of the invariant,
and leaves the rest of the agenda. -/
theorem exists_step_cons {s : State} {x : Input} {rest : List Input} (h : BlockInv s) (ha : s.agenda = x :: rest) :
    ∃ t, step s = .next t ∧ runInput x (openPorts { s with agenda := rest }) = .next t ∧ BlockInv t ∧
      t.agenda = rest := by
  have hOpen := blockInv_openPorts h rest
  obtain ⟨t, ht⟩ := exists_runInput_next hOpen x
  exact ⟨t, (step_cons ha).trans ht, ht, blockInv_runInput hOpen ht, runInput_agenda ht⟩

/-- R122: a run over an agenda that never writes the engine anew feeds it the operands of its `CK_FEED`s, in order. -/
theorem exists_runSteps_feedAll {s : State} {xs : List Input} (h : BlockInv s) (ha : s.agenda = xs)
    (hxs : ∀ x ∈ xs, clearsEngine x = false) :
    ∃ t, runSteps xs.length s = .next t ∧ engineOf t = (engineOf s).feedAll (xs.filterMap fedByte) := by
  induction xs generalizing s with
  | nil => exact ⟨s, rfl, rfl⟩
  | cons x xs ih =>
    obtain ⟨hx, hRest⟩ := List.forall_mem_cons.mp hxs
    obtain ⟨u, hStep, hRunX, hInv, hAgenda⟩ := exists_step_cons h ha
    obtain ⟨t, hRun, hEngine⟩ := ih hInv hAgenda hRest
    have hFed : engineOf u = (engineOf s).feedAll (fedByte x).toList := (runInput_engineOf hx hRunX).trans rfl
    refine ⟨t, (runSteps_succ hStep _).trans hRun, ?_⟩
    rw [hEngine, hFed, ← Engine.feedAll_append, List.filterMap_cons]
    cases fedByte x <;> rfl

/-- R123, R124: the two seed bytes overwrite what an engine in `EMPTY` holds, as they do after a clear. -/
theorem Engine.feedAll_of_empty {e : Engine} (h : e.ckState = .empty) {bs : List Byte} (hTwo : 2 ≤ bs.length) :
    e.feedAll bs = e.clear.feedAll bs := by
  match bs with
  | b0 :: b1 :: rest => simp [Engine.feed, Engine.clear, h]
  | [_] => simp at hTwo
  | [] => simp at hTwo

/-- Settles O50: the engine, empty at the start, ends as one that was cleared and then fed the bytes. -/
theorem streamingEqualsBatch : Obligations.StreamingEqualsBatch := by
  intro s xs h hEmpty ha hxs
  obtain ⟨t, hRun, hEngine⟩ := exists_runSteps_feedAll h ha hxs
  refine ⟨t, hRun, fun hTwo => ?_⟩
  rw [Engine.feedAll_of_empty hEmpty hTwo] at hEngine
  constructor
  · exact (congrArg Engine.ckState hEngine).trans (Engine.clear_feedAll_run _ hTwo)
  · rw [checksum_eq_feedAll (engineOf s) hTwo, ← hEngine]
    rfl

end Sys2Proof.Machine
end

section
/-!
PROOF. The frame in hand while it is sent (`spec/20_memory.md` R83, `spec/41_encoder.md` R140, R148, R150): its latches
hold, and the link takes its bytes one by one.
-/

namespace Sys2Proof.Machine

/-- The latches a frame's bytes are read from (R140). -/
def frameLatches (s : State) : Byte × Byte × Byte × Memory × Byte × Byte :=
  (s.eDev, s.eCmd, s.plen, s.pbuf, s.eCkHi, s.eCkLo)

/-- The frame in hand as the link is to see it (R100). -/
def frameInHand (s : State) : List Byte := wireFrame s.eDev s.eCmd (payload s) s.eCkHi s.eCkLo

/-- R140: the frame is read from the latches and from nothing else. -/
theorem frameInHand_congr {s t : State} (h : frameLatches t = frameLatches s) : frameInHand t = frameInHand s := by
  simp only [frameLatches, Prod.mk.injEq] at h
  obtain ⟨hDev, hCmd, hLen, hBuf, hHi, hLo⟩ := h
  simp only [frameInHand, payload, hDev, hCmd, hLen, hBuf, hHi, hLo]

theorem frameByte_congr {s t : State} (h : frameLatches t = frameLatches s) (k : Nat) :
    frameByte t k = frameByte s k := by
  rw [frameByte_eq_wireFrame, frameByte_eq_wireFrame]
  exact congrArg (·[k]?) (frameInHand_congr h)

/-- A frame being sent: the encoder's state, the position in the frame, and the latches. -/
def emission (s : State) : EncState × Count × Byte × Byte × Byte × Memory × Byte × Byte :=
  (s.encState, s.ePos, frameLatches s)

theorem frameLatches_of_emission {s t : State} (h : emission t = emission s) : frameLatches t = frameLatches s :=
  (Prod.mk.inj (Prod.mk.inj h).2).2

/-- R105: no event but `TX_ACCEPT` concerns the link's transmit side, in any state, nor does an unassigned opcode. -/
theorem runPlain_transmit {x : Input} {s t : State} (h : runPlain x s = .next t) (hTx : x ≠ .txAccept) :
    emission t = emission s ∧ t.txHistory = s.txHistory := by
  cases x with
  | command w =>
    cases h
    exact ⟨rfl, rfl⟩
  | rxArrive b =>
    cases h
    exact ⟨rfl, rfl⟩
  | txAccept => exact absurd rfl hTx
  | capCheck =>
    obtain ⟨-, rfl⟩ | ⟨-, -, rfl⟩ | ⟨-, -, b, rest, -, rfl⟩ := capCheck_next h <;> exact ⟨rfl, rfl⟩
  | timerExpire =>
    obtain ⟨-, rfl⟩ | ⟨-, rfl⟩ := timerExpire_next h <;> exact ⟨rfl, rfl⟩

/-- R148, R221: in `EMIT` the commands that write the frame meet a condition of their row, and no other one's effect but
that of `RESET` reaches the emission. -/
theorem effect_emission {i : Instr} {s : State} (hEnc : s.encState = .emit) (hi : ∀ v, i ≠ .reset v)
    (hf : faultOf s i = none) : emission (effect i s) = emission s := by
  cases i with
  | reset v => exact absurd rfl (hi v)
  | encManual v =>
    have hSel : ¬ 1 < v.toNat := fun hSel => by simp [faultOf, hSel] at hf
    simp [faultOf, hSel, hEnc] at hf
  | encBegin _ | encPush _ | encSend _ | encTelem _ | poll _ => simp [faultOf, hEnc] at hf
  | _ => rfl

/-- R148: in `EMIT` an input other than `RESET` and `TX_ACCEPT` leaves the emission. -/
theorem runInput_emission {x : Input} {s t : State} (h : runInput x s = .next t) (hEnc : s.encState = .emit)
    (hReset : isReset x = false) (hTx : x ≠ .txAccept) : emission t = emission s := by
  obtain ⟨i, hi, hExec⟩ | ⟨-, hPlain⟩ := runInput_next h
  · obtain ⟨f, -, rfl⟩ | ⟨hf, rfl⟩ := exec_next hExec
    · rfl
    · exact effect_emission hEnc (ne_reset_of_isReset_eq_false hReset hi) hf
  · obtain ⟨hEmission, -⟩ := runPlain_transmit hPlain hTx
    exact hEmission

@[simp] theorem endEmission_frameLatches (s : State) : frameLatches (endEmission s) = frameLatches s := by
  cases h : s.pollPend with
  | false => rw [endEmission_of_not_pend h]; rfl
  | true => rw [endEmission_of_pend h]; rfl

@[simp] theorem endEmission_txHistory (s : State) : (endEmission s).txHistory = s.txHistory := by
  cases h : s.pollPend with
  | false => rw [endEmission_of_not_pend h]
  | true => rw [endEmission_of_pend h]; rfl

/-- R150: the last byte leaves the latches, as every other one does. -/
theorem txAccept_frameLatches {s t : State} (h : txAccept s = .next t) : frameLatches t = frameLatches s := by
  obtain ⟨-, rfl⟩ | ⟨-, v, -, rfl⟩ := txAccept_next h
  · rfl
  · split
    · exact endEmission_frameLatches _
    · rfl

/-- R148: in `EMIT` no input but `RESET` writes a latch. -/
theorem runInput_frameLatches {x : Input} {s t : State} (h : runInput x s = .next t) (hEnc : s.encState = .emit)
    (hReset : isReset x = false) : frameLatches t = frameLatches s := by
  by_cases hTx : x = .txAccept
  · subst hTx
    exact txAccept_frameLatches h
  · exact frameLatches_of_emission (runInput_emission h hEnc hReset hTx)

/-- Settles O46: taking the input leaves the latches, and what an input without reset then does in `EMIT` does too. -/
theorem frameLatchesHoldDuringEmission : Obligations.FrameLatchesHoldDuringEmission := by
  intro s t u x hEnc hu hs hx
  rw [step_of_takeInput hu] at hs
  obtain rfl := takeInput_eq_openPorts hu
  have hLatches : frameLatches t = frameLatches s := (runInput_frameLatches hs hEnc hx).trans rfl
  have hBytes := frameByte_congr hLatches
  simp only [frameLatches, Prod.mk.injEq] at hLatches
  obtain ⟨hDev, hCmd, hLen, hBuf, hHi, hLo⟩ := hLatches
  exact ⟨hDev, hCmd, hLen, hBuf, hHi, hLo, hBytes⟩

/-- R150, R208: no command hands a byte to the link or takes one back, `RESET` neither. -/
theorem effect_txHistory (i : Instr) (s : State) : (effect i s).txHistory = s.txHistory := by
  cases i <;> rfl

/-- R150: no input but `TX_ACCEPT` hands a byte to the link. -/
theorem runInput_txHistory {x : Input} {s t : State} (h : runInput x s = .next t) (hTx : x ≠ .txAccept) :
    t.txHistory = s.txHistory := by
  obtain ⟨i, -, hExec⟩ | ⟨-, hPlain⟩ := runInput_next h
  · obtain ⟨f, -, rfl⟩ | ⟨-, rfl⟩ := exec_next hExec
    · rfl
    · exact effect_txHistory i s
  · obtain ⟨-, hHistory⟩ := runPlain_transmit hPlain hTx
    exact hHistory

/-- R150: `TX_ACCEPT` hands the link the byte at `E_POS`, in `EMIT` alone. -/
theorem txAccept_txHistory {s t : State} (h : txAccept s = .next t) :
    t.txHistory = s.txHistory ∨
    (s.encState = .emit ∧ ∃ v, frameByte s s.ePos.toNat = some v ∧ t.txHistory = s.txHistory ++ [v]) := by
  obtain ⟨-, rfl⟩ | ⟨hEnc, v, hv, rfl⟩ := txAccept_next h
  · exact .inl rfl
  · exact .inr ⟨hEnc, v, hv, by split <;> simp⟩

/-- Settles O47: the block waits, or takes an input, of which only `TX_ACCEPT` reaches the link. -/
theorem linkBytesComeOnlyFromTheFrame : Obligations.LinkBytesComeOnlyFromTheFrame := by
  intro s t hs
  cases hTake : takeInput s with
  | none =>
    rw [step, hTake] at hs
    cases hs
    exact .inl rfl
  | some xu =>
    obtain ⟨x, u⟩ := xu
    rw [step_of_takeInput hTake] at hs
    obtain rfl := takeInput_eq_openPorts hTake
    by_cases hTx : x = .txAccept
    · subst hTx
      exact txAccept_txHistory (s := openPorts { s with agenda := s.agenda.tail }) hs
    · exact .inl ((runInput_txHistory hs hTx).trans rfl)

/-- R150: what `TX_ACCEPT` does in `EMIT`, where the frame has a byte at `E_POS`. -/
theorem txAccept_of_frameByte {s : State} {v : Byte} (hEnc : s.encState = .emit)
    (hv : frameByte s s.ePos.toNat = some v) :
    txAccept s = .next
      (if (s.ePos + 1#9).toNat = s.plen.toNat + 18 then endEmission (emitByte v s) else emitByte v s) := by
  simp only [txAccept, if_pos hEnc, hv]
  exact (apply_ite Host.Outcome.next _ _ _).symm

/-- R100: the last byte of a frame is the terminator. -/
theorem frameByte_terminator (s : State) : frameByte s (s.plen.toNat + 17) = some 0x7F#8 := by
  simp (disch := omega) only [frameByte, if_pos, if_neg]
  rfl

/-- R43, R140: within the frame `E_POS` counts on, at most to 273. -/
theorem ePos_succ_toNat {s : State} (h : s.ePos.toNat ≤ s.plen.toNat + 17) :
    (s.ePos + 1#9).toNat = s.ePos.toNat + 1 := by
  have hLen : s.plen.toNat < 256 := s.plen.isLt
  exact count_succ_toNat (by omega)

/-- The state after a step in which the link takes byte `v`, before the end of an emission, with `rest` left on the
agenda. -/
def afterAccept (v : Byte) (rest : List Input) (s : State) : State := emitByte v (openPorts { s with agenda := rest })

@[simp] theorem afterAccept_txHistory (v : Byte) (rest : List Input) (s : State) :
    (afterAccept v rest s).txHistory = s.txHistory ++ [v] := rfl

@[simp] theorem afterAccept_ePos (v : Byte) (rest : List Input) (s : State) :
    (afterAccept v rest s).ePos = s.ePos + 1#9 := rfl

@[simp] theorem afterAccept_plen (v : Byte) (rest : List Input) (s : State) :
    (afterAccept v rest s).plen = s.plen := rfl

/-- R150: a step whose input is `TX_ACCEPT` hands over the byte at `E_POS` and counts it; the byte at `PLEN + 17` also
ends the emission. -/
theorem exists_step_txAccept {s : State} {rest : List Input} (ha : s.agenda = .txAccept :: rest)
    (hEnc : s.encState = .emit) (hPos : s.ePos.toNat ≤ s.plen.toNat + 17) :
    ∃ v, frameByte s s.ePos.toNat = some v ∧ (s.ePos + 1#9).toNat = s.ePos.toNat + 1 ∧
      ((s.ePos.toNat < s.plen.toNat + 17 ∧ step s = .next (afterAccept v rest s)) ∨
       (s.ePos.toNat = s.plen.toNat + 17 ∧ step s = .next (endEmission (afterAccept v rest s)))) := by
  obtain ⟨v, hv⟩ := exists_frameByte hPos
  have hNext := ePos_succ_toNat hPos
  have hStep : step s = .next (if (s.ePos + 1#9).toNat = s.plen.toNat + 18 then endEmission (afterAccept v rest s)
      else afterAccept v rest s) := (step_cons ha).trans (txAccept_of_frameByte hEnc hv)
  refine ⟨v, hv, hNext, ?_⟩
  obtain hMore | hLast := Nat.lt_or_eq_of_le hPos
  · rw [if_neg (by omega)] at hStep
    exact .inl ⟨hMore, hStep⟩
  · rw [if_pos (by omega)] at hStep
    exact .inr ⟨hLast, hStep⟩

/-- Settles O33: before the last byte the byte is handed over and nothing else happens; the last one is the terminator
and ends the emission, with a capture pending or without. -/
theorem txAcceptSendsTheNextFrameByte : Obligations.TxAcceptSendsTheNextFrameByte := by
  intro s rest ha hEnc hPos
  obtain ⟨v, hv, hNext, ⟨hMore, hStep⟩ | ⟨hLast, hStep⟩⟩ := exists_step_txAccept ha hEnc hPos
  · have hNotLast := Nat.ne_of_lt hMore
    exact ⟨v, _, hv, hStep, hNext, fun _ => rfl, fun h => absurd h hNotLast, fun h => absurd h hNotLast⟩
  · have hTerminator : v = 0x7F#8 := by
      rw [hLast, frameByte_terminator] at hv
      exact (Option.some.inj hv).symm
    obtain hPoll | hPoll := Bool.eq_false_or_eq_true s.pollPend
    · rw [endEmission_of_pend (s := afterAccept v rest s) hPoll] at hStep
      exact ⟨v, _, hv, hStep, hNext, fun h => absurd hLast (Nat.ne_of_lt h),
        fun _ h => absurd (h.symm.trans hPoll) (by decide), fun _ _ => ⟨hTerminator, rfl⟩⟩
    · rw [endEmission_of_not_pend (s := afterAccept v rest s) hPoll] at hStep
      exact ⟨v, _, hv, hStep, hNext, fun h => absurd hLast (Nat.ne_of_lt h), fun _ _ => ⟨hTerminator, rfl⟩,
        fun _ h => absurd (hPoll.symm.trans h) (by decide)⟩

/-- R150: an agenda without `TX_ACCEPT` hands nothing to the link. -/
theorem exists_runSteps_txHistory {s : State} {xs : List Input} (h : BlockInv s) (ha : s.agenda = xs)
    (hxs : .txAccept ∉ xs) : ∃ t, runSteps xs.length s = .next t ∧ t.txHistory = s.txHistory := by
  induction xs generalizing s with
  | nil => exact ⟨s, rfl, rfl⟩
  | cons x xs ih =>
    obtain ⟨hx, hRest⟩ := List.ne_and_not_mem_of_not_mem_cons hxs
    obtain ⟨u, hStep, hRunX, hInv, hAgenda⟩ := exists_step_cons h ha
    obtain ⟨t, hRun, hHistory⟩ := ih hInv hAgenda hRest
    exact ⟨t, (runSteps_succ hStep _).trans hRun, hHistory.trans ((runInput_txHistory hRunX hx.symm).trans rfl)⟩

/-- R140: the bytes still to be sent begin with the one at `E_POS`. -/
theorem drop_frameInHand {s : State} {k : Nat} {v : Byte} (hv : frameByte s k = some v) :
    (frameInHand s).drop k = v :: (frameInHand s).drop (k + 1) := by
  rw [frameByte_eq_wireFrame] at hv
  obtain ⟨hk, rfl⟩ := List.getElem?_eq_some_iff.mp hv
  exact List.drop_eq_getElem_cons hk

/-- R148: from anywhere in an emission, an agenda without `RESET` and with no more `TX_ACCEPT` than the frame has bytes
left hands the link as many of those bytes, in order. -/
theorem exists_runSteps_emission {s : State} {xs : List Input} (h : BlockInv s) (hEnc : s.encState = .emit)
    (ha : s.agenda = xs) (hxs : ∀ x ∈ xs, isReset x = false)
    (hCount : s.ePos.toNat + xs.count .txAccept ≤ s.plen.toNat + 18) :
    ∃ t, runSteps xs.length s = .next t ∧
      t.txHistory = s.txHistory ++ ((frameInHand s).drop s.ePos.toNat).take (xs.count .txAccept) := by
  induction xs generalizing s with
  | nil => exact ⟨s, rfl, by simp⟩
  | cons x xs ih =>
    obtain ⟨hx, hRest⟩ := List.forall_mem_cons.mp hxs
    obtain ⟨u, hStep, hRunX, hInv, hAgenda⟩ := exists_step_cons h ha
    by_cases hTx : x = .txAccept
    case neg =>
      have hEmission : emission u = emission s := (runInput_emission hRunX hEnc hx hTx).trans rfl
      have hFrame := frameInHand_congr (frameLatches_of_emission hEmission)
      simp only [emission, frameLatches, Prod.mk.injEq] at hEmission
      obtain ⟨hEncU, hPosU, -, -, hLenU, -⟩ := hEmission
      rw [List.count_cons_of_ne hTx] at hCount ⊢
      obtain ⟨t, hRun, hHistory⟩ := ih hInv (hEncU.trans hEnc) hAgenda hRest (by rwa [hPosU, hLenU])
      refine ⟨t, (runSteps_succ hStep _).trans hRun, ?_⟩
      rw [hHistory, hFrame, hPosU, runInput_txHistory hRunX hTx]
      rfl
    case pos =>
      subst hTx
      have ⟨_, ⟨hEmit, _⟩, _⟩ := h
      obtain ⟨v, hv, hNext, hSent⟩ := exists_step_txAccept ha hEnc (hEmit hEnc)
      rw [List.count_cons_self] at hCount ⊢
      rw [drop_frameInHand hv, List.take_succ_cons]
      obtain ⟨-, hSent⟩ | ⟨hLast, hSent⟩ := hSent <;> obtain rfl := Host.Outcome.next.inj (hStep.symm.trans hSent)
      · obtain ⟨t, hRun, hHistory⟩ := ih hInv hEnc hAgenda hRest (by
          rw [afterAccept_ePos, afterAccept_plen, hNext]
          omega)
        refine ⟨t, (runSteps_succ hStep _).trans hRun, ?_⟩
        rw [hHistory, afterAccept_txHistory, afterAccept_ePos, hNext, List.append_assoc]
        rfl
      · have hSilent : xs.count .txAccept = 0 := by omega
        obtain ⟨t, hRun, hHistory⟩ := exists_runSteps_txHistory hInv hAgenda (List.count_eq_zero.mp hSilent)
        refine ⟨t, (runSteps_succ hStep _).trans hRun, ?_⟩
        rw [hHistory, hSilent, endEmission_txHistory]
        rfl

/-- Settles O58: at the start of an emission the whole frame is left. -/
theorem emissionSendsTheLatchedFrame : Obligations.EmissionSendsTheLatchedFrame := by
  intro s xs h hEnc hPos ha hxs hCount
  have hZero : s.ePos.toNat = 0 := by rw [hPos]; rfl
  have hSent := exists_runSteps_emission h hEnc ha hxs (by rwa [hZero, Nat.zero_add])
  rwa [hZero, List.drop_zero] at hSent

end Sys2Proof.Machine
end

section
/-!
PROOF. The commands of the frame encoder (`spec/41_encoder.md` R142 to R147).
-/

namespace Sys2Proof.Machine

/-- R224, R225: a command outside the response class that meets a condition of its row takes that fault into the record
and does nothing else. -/
theorem exec_of_faultOf_eq_some {i : Instr} {f : FaultKind} {s : State} (hf : faultOf s i = some f)
    (hi : responds i = false) : exec i s = .next (recordFault f (commandWord i) s) := by
  rw [exec_eq, hf, Option.elim_some, raise, if_neg (by simp [hi])]

/-- Settles O14: `EMIT` is the one condition of the command's row. -/
theorem encBeginOpensAFrame : Obligations.EncBeginOpensAFrame := by
  intro c s
  refine ⟨decodeCommand_append 0x10#8 c, fun hEnc => ?_, fun hEnc => ?_⟩
  · exact exec_of_faultOf_eq_none (if_neg hEnc)
  · exact exec_of_faultOf_eq_some (if_pos hEnc) rfl

/-- Settles O17: the fixed frame is started where the encoder is idle and no capture active, the condition of the
command's row. -/
theorem encTelemStartsTheFixedFrame : Obligations.EncTelemStartsTheFixedFrame := by
  intro v s
  refine ⟨decodeCommand_append 0x13#8 v, fun hIdle hActive => ?_, fun hInUse => ?_⟩
  · exact exec_of_faultOf_eq_none (if_pos ⟨hIdle, hActive⟩)
  · exact exec_of_faultOf_eq_some (if_neg fun hFree => by simp [hFree] at hInUse) rfl

/-- Settles O15: with room in `ASSEMBLE` no condition of the row holds, and the write reaches the byte at `PLEN` alone;
elsewhere the row names the fault. -/
theorem encPushAppendsOneByte : Obligations.EncPushAppendsOneByte := by
  intro b s hWf
  refine ⟨decodeCommand_append 0x11#8 b, fun hEnc hRoom => ?_, fun hEnc => ?_, fun hEnc => ?_, fun hEnc hFull => ?_⟩
  · refine ⟨_, exec_of_faultOf_eq_none (by simp [faultOf, hEnc, Nat.ne_of_lt hRoom]), rfl, ?_, ?_, fun k hk => ?_⟩
    · change (s.plen + 1#8).toNat = s.plen.toNat + 1
      bv_omega
    · exact (Memory.read_write _ _ b hWf).trans (if_pos rfl)
    · exact (Memory.read_write _ _ b hWf).trans (if_neg hk.symm)
  · exact exec_of_faultOf_eq_some (by simp [faultOf, hEnc]) rfl
  · exact exec_of_faultOf_eq_some (by simp [faultOf, hEnc]) rfl
  · exact exec_of_faultOf_eq_some (by simp [faultOf, hEnc, hFull]) rfl

/-- R147: the engine fed the span, which is longer than the seed, is in `RUN`. -/
theorem spanEngine_ckState (s : State) : (spanEngine s).ckState = .run :=
  Engine.clear_feedAll_run (engineOf s) (by simp)

/-- R141, R147: `StartComputed` leaves the engine fed the span of the frame in hand, with that span's checksum `w` in
`R1:R2` and in the latches, and starts the emission. -/
theorem exists_startComputed (s : State) :
    ∃ w, checksum (span s.devId s.eCmd (payload s)) = some w ∧
      engineOf (startComputed s) = (engineOf s).clear.feedAll (span s.devId s.eCmd (payload s)) ∧
      startComputed s = { s with
        ckState := .run, r1 := wordHi w, r2 := wordLo w, r3 := (startComputed s).r3, r4 := (startComputed s).r4
        eDev := s.devId, eCkHi := wordHi w, eCkLo := wordLo w, ePos := 0#9, encState := .emit } := by
  refine ⟨(spanEngine s).r1 ++ (spanEngine s).r2, checksum_eq_feedAll (engineOf s) (by simp), rfl, ?_⟩
  rw [wordHi_append, wordLo_append, ← spanEngine_ckState s]
  rfl

/-- R40, R141: the span of the frame in hand, with `PLEN` as its length byte. -/
theorem span_payload (s : State) :
    span s.devId s.eCmd (payload s) = [s.devId, s.eCmd, s.plen] ++ payload s ++ [0x00#8, 0x00#8] := by
  rw [span, ofNat_payload_length]

/-- Settles O16: in `ASSEMBLE` with no capture active no condition of the row holds; elsewhere its conditions are tested
with `BUSY` before `ENC_SEQ`. -/
theorem encSendLatchesTheSpanChecksum : Obligations.EncSendLatchesTheSpanChecksum := by
  intro v s
  refine ⟨decodeCommand_append 0x12#8 v, fun hEnc hActive => ?_, fun hInUse => ?_, fun hEnc hActive => ?_⟩
  · obtain ⟨w, hChecksum, hEngine, hStart⟩ := exists_startComputed s
    rw [span_payload] at hChecksum hEngine
    exact ⟨_, w, exec_of_faultOf_eq_none (by simp [faultOf, hEnc, hActive]), hChecksum, hEngine, hStart⟩
  · refine exec_of_faultOf_eq_some ?_ rfl
    obtain hEnc | hActive := hInUse
    · simp [faultOf, hEnc]
    · cases hEnc : s.encState <;> simp [faultOf, hEnc, hActive]
  · exact exec_of_faultOf_eq_some (by simp [faultOf, hEnc, hActive]) rfl

/-- `s` with the manual-control frame of selector `v` in hand, not started yet (R146). -/
def manualInHand (v : Byte) (s : State) : State :=
  { s with eCmd := cmdManual, pbuf := Memory.write s.pbuf 0 v, plen := 0x01#8 }

theorem startManual_eq (v : Byte) (s : State) : startManual v s = startComputed (manualInHand v s) := rfl

/-- R146: the payload is the selector. -/
theorem payload_manualInHand {s : State} (v : Byte) (hWf : Memory.wf s.pbuf = true) :
    payload (manualInHand v s) = [v] := by
  simp [payload, manualInHand, Memory.read_write _ _ _ hWf]

/-- Settles O18: with a legal selector, the encoder idle and no capture active no condition of the row holds, and the
frame in hand has the selector as its one payload byte; elsewhere `ILLEGAL_OPERAND` is tested before `BUSY`. -/
theorem encManualSendsItsSelector : Obligations.EncManualSendsItsSelector := by
  intro v s hWf
  refine ⟨decodeCommand_append 0x14#8 v, fun hv hIdle hActive => ?_, fun hv => ?_, fun hv hInUse => ?_⟩
  · have hNoFault : faultOf s (.encManual v) = none := by simp [faultOf, hIdle, hActive, Nat.not_lt.mpr hv]
    have hExec : exec (.encManual v) s = .next (startComputed (manualInHand v s)) :=
      (exec_of_faultOf_eq_none hNoFault).trans (congrArg _ (startManual_eq v s))
    obtain ⟨w, hChecksum, hEngine, hStart⟩ := exists_startComputed (manualInHand v s)
    rw [payload_manualInHand v hWf] at hChecksum hEngine
    exact ⟨_, w, hExec, hChecksum, hEngine, hStart, (Memory.read_write _ _ v hWf).trans (if_pos rfl),
      fun k hk => (Memory.read_write _ _ v hWf).trans (if_neg hk.symm)⟩
  · exact exec_of_faultOf_eq_some (if_pos hv) rfl
  · refine exec_of_faultOf_eq_some ((if_neg (Nat.not_lt.mpr hv)).trans (if_neg fun hFree => ?_)) rfl
    simp [hFree] at hInUse

end Sys2Proof.Machine
end

section
/-!
PROOF. The commands of the serial frame capture (`spec/42_capture.md` R171 to R175).
-/

namespace Sys2Proof.Machine

/-- R224, R225: a command of the response class that meets a condition of its row takes that fault into the record and
answers `0x00`. -/
theorem exec_read_of_faultOf_eq_some {i : Instr} {f : FaultKind} {s : State} (hf : faultOf s i = some f)
    (hi : responds i = true) :
    exec i s = .next { recordFault f (commandWord i) s with response := some 0x00#8 } := by
  rw [exec_eq, hf, Option.elim_some, raise, if_pos hi]

/-- Settles O19: a frame being sent or a capture under way is the one condition of the command's row. -/
theorem capStartStartsACapture : Obligations.CapStartStartsACapture := by
  intro v s
  refine ⟨decodeCommand_append 0x20#8 v, fun hEnc hActive => ?_, fun hInUse => ?_⟩
  · exact exec_of_faultOf_eq_none (if_neg fun hInUse => by simp [hEnc, hActive] at hInUse)
  · exact exec_of_faultOf_eq_some (if_pos hInUse) rfl

/-- Settles O20: the command's row has the condition of `ENC_TELEM`, and the `TX_ACCEPT` at `PLEN + 17` ends the
emission with the capture pending. -/
theorem pollStartsTheFrameAndPendsACapture : Obligations.PollStartsTheFrameAndPendsACapture := by
  constructor
  · intro v s
    refine ⟨decodeCommand_append 0x21#8 v, fun hIdle hActive => ?_, fun hInUse => ?_⟩
    · exact exec_of_faultOf_eq_none (if_pos ⟨hIdle, hActive⟩)
    · exact exec_of_faultOf_eq_some (if_neg fun hFree => by simp [hFree] at hInUse) rfl
  · intro u rest ha hEnc hPend hLast
    obtain ⟨v, -, -, ⟨hMore, -⟩ | ⟨-, hStep⟩⟩ := exists_step_txAccept ha hEnc hLast.le
    · exact absurd hLast (Nat.ne_of_lt hMore)
    · rw [endEmission_of_pend (s := afterAccept v rest u) hPend] at hStep
      exact ⟨_, hStep, rfl, rfl, rfl, rfl, rfl⟩

/-- R91, R94: an index operand is its byte's value. -/
theorem indexOperand_eq_toNat (i : Byte) : indexOperand i = i.toNat :=
  BitVec.toNat_setWidth_of_le (by decide)

/-- Settles O21: a capture under way or pending is the one condition of the command's row. -/
theorem capRdReadsTheBuffer : Obligations.CapRdReadsTheBuffer := by
  intro i s
  refine ⟨decodeCommand_append 0x22#8 i, fun hActive hPend => ?_, fun hOwned => ?_⟩
  · rw [← indexOperand_eq_toNat]
    exact exec_of_faultOf_eq_none (if_neg fun hOwned => by simp [hActive, hPend] at hOwned)
  · exact exec_read_of_faultOf_eq_some (if_pos hOwned) rfl

/-- R74: a counter is 256 times its `..HI` byte plus its `..LO` byte. -/
theorem count_eq_halves (c : Count) : c.toNat = 256 * (counterHi c).toNat + (counterLo c).toNat := by
  have hBound : c.toNat < 512 := c.isLt
  simp only [counterHi, counterLo, BitVec.toNat_setWidth, BitVec.extractLsb'_toNat, Nat.shiftRight_eq_div_pow]
  omega

/-- Settles O22: the four reads have no row in R221, and each counter is put together from its two halves. -/
theorem captureCountersReadInTwoHalves : Obligations.CaptureCountersReadInTwoHalves := fun v s =>
  ⟨decodeCommand_append 0x23#8 v, decodeCommand_append 0x24#8 v, decodeCommand_append 0x25#8 v,
    decodeCommand_append 0x26#8 v, ⟨counterLo s.widx, counterHi s.widx, rfl, rfl, count_eq_halves s.widx⟩,
    ⟨counterLo s.iter, counterHi s.iter, rfl, rfl, count_eq_halves s.iter⟩⟩

end Sys2Proof.Machine
end

section
/-!
PROOF. The three events of the capture (`spec/42_capture.md` R176 to R178), one step each.
-/

namespace Sys2Proof.Machine

/-- R102: `0xA0` and `0xAA` are the only link codes. -/
theorem decodeLink_of_ne {b : Byte} (hTelemetry : b ≠ cmdTelemetry) (hManual : b ≠ cmdManual) :
    decodeLink b = .error (.notAFixedLinkCode b) := by
  unfold decodeLink
  split
  · next hCode => exact absurd (BitVec.eq_of_toNat_eq hCode) hTelemetry
  · next hCode => exact absurd (BitVec.eq_of_toNat_eq hCode) hManual
  · rfl

/-- R102, R176: a byte on the link joins the queue or is dropped, the two fixed command codes like any other. -/
theorem runInput_rxArrive (b : Byte) (s : State) : runInput (.rxArrive b) s = .next (receiveByte b s) := by
  by_cases hTelemetry : b = cmdTelemetry
  · subst hTelemetry
    rfl
  by_cases hManual : b = cmdManual
  · subst hManual
    rfl
  have hPlain : inputInstr (.rxArrive b) = none := by
    simp [inputInstr, inputCode, decode, decodeLink_of_ne hTelemetry hManual]
  exact runInput_of_inputInstr_eq_none hPlain s

theorem receiveByte_of_room {s : State} (b : Byte) (h : s.rxq.length < s.params.rxDepth) :
    receiveByte b s = { s with rxq := s.rxq ++ [b] } := by
  rw [receiveByte, if_pos h]

theorem receiveByte_of_full {s : State} (b : Byte) (h : s.params.rxDepth ≤ s.rxq.length) : receiveByte b s = s := by
  rw [receiveByte, if_neg (Nat.not_lt.mpr h)]

/-- Settles O34: every link byte is received alike, and the queue has room or is full. -/
theorem rxArriveQueuesOrDrops : Obligations.RxArriveQueuesOrDrops := by
  intro s b rest ha
  rw [(step_cons ha).trans (runInput_rxArrive b _)]
  exact ⟨fun hRoom => congrArg _ (receiveByte_of_room b hRoom),
    fun hFull => congrArg _ (receiveByte_of_full b hFull)⟩

/-- R177: a check with the queue empty ends the iteration. -/
theorem capCheck_of_nil {s : State} (hCheck : s.capState = .check) (hQueue : s.rxq = []) :
    capCheck s = .next (endIteration s) := by
  simp [capCheck, hCheck, hQueue]

/-- R177: a check with a byte waiting stores it, as far as `BUF` has room. -/
theorem capCheck_of_cons {s : State} {b : Byte} {q : List Byte} (hCheck : s.capState = .check) (hQueue : s.rxq = b :: q)
    (hWidx : s.widx.toNat < capacity) : capCheck s = .next (storeByte b q s) := by
  simp [capCheck, hCheck, hQueue, hWidx]

/-- R178: the end of the delay ends the iteration. -/
theorem timerExpire_of_wait {s : State} (hWait : s.capState = .wait) : timerExpire s = .next (endIteration s) :=
  if_pos hWait

/-- R177, R178: an iteration that ends is counted, and the 256th is the last. -/
theorem endIteration_eq {s : State} (hIter : s.iter.toNat < 256) :
    endIteration s = { s with
      iter := (endIteration s).iter
      capState := if s.iter.toNat + 1 = 256 then .done else .check } ∧
    (endIteration s).iter.toNat = s.iter.toNat + 1 := by
  have hNext : (s.iter + 1#9).toNat = s.iter.toNat + 1 := count_succ_toNat (by omega)
  refine ⟨?_, hNext⟩
  simp only [endIteration, hNext, capacity]

/-- Settles O35: `WIDX`, at most `ITER`, is an index of `BUF` and counts on; the write reaches its byte alone. -/
theorem capCheckStoresOrCounts : Obligations.CapCheckStoresOrCounts := by
  intro s rest ha hCheck hWf hIter hWidx
  have hRange : s.widx.toNat < capacity := hWidx.trans_lt hIter
  constructor
  · intro b q hQueue
    refine ⟨_, (step_cons ha).trans (capCheck_of_cons hCheck hQueue hRange), rfl, ?_, ?_, fun k hk => ?_⟩
    · exact count_succ_toNat (hRange.trans (by decide))
    · exact (Memory.read_write _ _ b hWf).trans (if_pos rfl)
    · exact (Memory.read_write _ _ b hWf).trans (if_neg hk.symm)
  · intro hQueue
    exact ⟨_, (step_cons ha).trans (capCheck_of_nil hCheck hQueue), endIteration_eq hIter⟩

/-- Settles O36: the delay's end is the end of the iteration. -/
theorem timerExpireEndsTheIteration : Obligations.TimerExpireEndsTheIteration :=
  fun _ _ ha hWait hIter => ⟨_, (step_cons ha).trans (timerExpire_of_wait hWait), endIteration_eq hIter⟩

end Sys2Proof.Machine
end

section
/-!
PROOF. A whole capture of a waiting queue (`spec/42_capture.md` section 4, R177 to R182), iteration by iteration.
-/

namespace Sys2Proof.Machine

/-- `t` is on the way of a capture that started in `s`, with no byte arriving: of the bytes that waited then, the first
`n`, or all if there are fewer, are in order at the start of `BUF`, which is otherwise as it was, and the rest waits. -/
structure Took (s : State) (n : Nat) (t : State) : Prop where
  blockInv : BlockInv t
  agenda : t.agenda = []
  widx : t.widx.toNat = min n s.rxq.length
  rxq : t.rxq = s.rxq.drop n
  read_buf : ∀ j, Memory.read t.buf j = (s.rxq.take n)[j]?.getD (Memory.read s.buf j)

/-- `t` is `n` iterations on from the start of a capture in `s`. -/
structure CaptureAfter (s : State) (n : Nat) (t : State) : Prop extends Took s n t where
  iter : t.iter.toNat = n
  capState : t.capState = if n = 256 then .done else .check

theorem took_openPorts {s t : State} {n : Nat} (h : Took s n t) : Took s n (openPorts t) :=
  ⟨h.blockInv, h.agenda, h.widx, h.rxq, h.read_buf⟩

/-- R171: a capture starts with nothing taken, since `WIDX` is at most `ITER`, which is 0. -/
theorem captureAfter_zero {s : State} (h : BlockInv s) (ha : s.agenda = []) (hCheck : s.capState = .check)
    (hIter : s.iter = 0#9) : CaptureAfter s 0 s := by
  have ⟨⟨_, hStored, _⟩, _⟩ := h
  have hZero : s.iter.toNat = 0 := by rw [hIter]; rfl
  have hWidx := hStored (by simp [hCheck])
  exact ⟨⟨h, ha, by omega, rfl, fun _ => rfl⟩, hZero, hCheck⟩

/-- R177: where no byte waits any more, an absent check has nothing to take. -/
theorem Took.succ_of_nil {s t : State} {n : Nat} (h : Took s n t) (hQueue : t.rxq = []) : Took s (n + 1) t := by
  have hLength : s.rxq.length ≤ n := List.drop_eq_nil_iff.mp (h.rxq.symm.trans hQueue)
  have hTake : s.rxq.take (n + 1) = s.rxq.take n := by
    rw [List.take_of_length_le hLength, List.take_of_length_le (Nat.le_succ_of_le hLength)]
  refine ⟨h.blockInv, h.agenda, ?_, ?_, ?_⟩
  · rw [h.widx]
    omega
  · rw [hQueue, List.drop_of_length_le (Nat.le_succ_of_le hLength)]
  · rw [hTake]
    exact h.read_buf

/-- R177: a present check takes the next waiting byte to the next index of `BUF`. -/
theorem took_storeByte {s t : State} {n : Nat} (h : Took s n t) (hCheck : t.capState = .check) {b : Byte}
    {q : List Byte} (hQueue : t.rxq = b :: q) : Took s (n + 1) (storeByte b q t) := by
  have ⟨hCapture, _, _, hWf, _⟩ := h.blockInv
  have hDrop : s.rxq.drop n = b :: q := h.rxq.symm.trans hQueue
  have hHead : s.rxq[n]? = some b := by rw [← List.head?_drop, hDrop, List.head?_cons]
  obtain ⟨hLength, -⟩ := List.getElem?_eq_some_iff.mp hHead
  have hWidx : t.widx.toNat = n := by rw [h.widx, Nat.min_eq_left hLength.le]
  have hNext := count_succ_toNat ((hCapture.widx_lt hCheck).trans (by decide))
  refine ⟨blockInv_storeByte h.blockInv hCheck hQueue, h.agenda, ?_, ?_, fun j => ?_⟩
  · rw [storeByte_widx, hNext, hWidx, Nat.min_eq_left hLength]
  · rw [storeByte_rxq, ← List.drop_drop, hDrop, List.drop_succ_cons, List.drop_zero]
  · rw [storeByte_buf, Memory.read_write _ _ b hWf, hWidx, h.read_buf, List.getElem?_take, List.getElem?_take]
    by_cases hj : n = j
    · subst hj
      rw [if_pos rfl, if_pos (Nat.lt_succ_self n), hHead, Option.getD_some]
    · have hBefore : j < n ↔ j < n + 1 := by omega
      rw [if_neg hj, if_congr hBefore rfl rfl]

/-- R177, R178: the end of an iteration counts it and leaves what was taken. -/
theorem captureAfter_endIteration {s t : State} {n : Nat} (h : Took s (n + 1) t) (hActive : capActive t = true)
    (hIter : t.iter.toNat = n) (hn : n < 256) : CaptureAfter s (n + 1) (endIteration t) := by
  obtain ⟨hEnd, hCount⟩ := endIteration_eq (hIter.trans_lt hn)
  have hStored : t.widx.toNat ≤ t.iter.toNat + 1 := by
    rw [h.widx, hIter]
    exact Nat.min_le_left ..
  rw [hIter] at hEnd hCount
  exact ⟨⟨blockInv_endIteration h.blockInv hActive hStored, h.agenda, h.widx, h.rxq, h.read_buf⟩, hCount,
    congrArg State.capState hEnd⟩

/-- R262: during a capture with no input the enabled event is the capture's own, since no frame is being sent. -/
theorem step_check {s : State} (h : BlockInv s) (ha : s.agenda = []) (hCheck : s.capState = .check) :
    step s = capCheck (openPorts s) := by
  obtain ⟨hEnc, -⟩ := encoder_of_capActive h (by simp [capActive, hCheck])
  exact step_of_enabledEvent ha (enabledEvent_of_check hEnc hCheck)

/-- R262: and so it is the end of the delay in `WAIT`. -/
theorem step_wait {s : State} (h : BlockInv s) (ha : s.agenda = []) (hWait : s.capState = .wait) :
    step s = timerExpire (openPorts s) := by
  obtain ⟨hEnc, -⟩ := encoder_of_capActive h (by simp [capActive, hWait])
  exact step_of_enabledEvent ha (enabledEvent_of_wait hEnc hWait)

/-- One iteration is an absent check, or a present one and the delay after it. -/
theorem CaptureAfter.exists_iteration {s t : State} {n : Nat} (h : CaptureAfter s n t) (hn : n < 256) :
    ∃ k u, k ≤ 2 ∧ runSteps k t = .next u ∧ CaptureAfter s (n + 1) u := by
  obtain ⟨hTook, hIter, hCheck⟩ := h
  rw [if_neg hn.ne] at hCheck
  have hStep := step_check hTook.blockInv hTook.agenda hCheck
  cases hQueue : t.rxq with
  | nil =>
    have hActive : capActive t = true := by simp [capActive, hCheck]
    rw [capCheck_of_nil (s := openPorts t) hCheck hQueue] at hStep
    exact ⟨1, _, by decide, runSteps_succ hStep 0,
      captureAfter_endIteration (took_openPorts (hTook.succ_of_nil hQueue)) hActive hIter hn⟩
  | cons b q =>
    have ⟨hCapture, _⟩ := hTook.blockInv
    rw [capCheck_of_cons (s := openPorts t) hCheck hQueue (hCapture.widx_lt hCheck)] at hStep
    have hStored := took_storeByte (took_openPorts hTook) hCheck hQueue
    have hDelay := step_wait hStored.blockInv hStored.agenda rfl
    rw [timerExpire_of_wait rfl] at hDelay
    exact ⟨2, _, le_rfl, (runSteps_succ hStep 1).trans (runSteps_succ hDelay 0),
      captureAfter_endIteration (took_openPorts hStored) rfl hIter hn⟩

/-- R179: a capture goes through its iterations one after the other, two steps at most for each. -/
theorem exists_runSteps_captureAfter {s : State} (h : CaptureAfter s 0 s) {n : Nat} (hn : n ≤ 256) :
    ∃ k t, k ≤ 2 * n ∧ runSteps k s = .next t ∧ CaptureAfter s n t := by
  induction n with
  | zero => exact ⟨0, s, le_rfl, rfl, h⟩
  | succ n ih =>
    obtain ⟨k, t, hk, hRun, hAfter⟩ := ih (Nat.le_of_succ_le hn)
    obtain ⟨l, u, hl, hIteration, hNext⟩ := hAfter.exists_iteration hn
    exact ⟨k + l, u, by omega, (runSteps_add hRun l).trans hIteration, hNext⟩

/-- Settles O60: after 256 iterations the capture is done, and the bytes it took are the first 256 of those waiting. -/
theorem captureTakesTheWaitingBytes : Obligations.CaptureTakesTheWaitingBytes := by
  intro s h ha hCheck hIter
  obtain ⟨k, t, hk, hRun, hTook, hCount, hDone⟩ :=
    exists_runSteps_captureAfter (captureAfter_zero h ha hCheck hIter) le_rfl
  refine ⟨k, t, hk, hRun, hDone, hCount, hTook.widx, hTook.rxq, fun j b hj hb => ?_, fun j hj => ?_⟩
  · rw [hTook.read_buf, List.getElem?_take_of_lt hj, hb, Option.getD_some]
  · rw [hTook.read_buf, List.getElem?_eq_none (by simpa using hj), Option.getD_none]

end Sys2Proof.Machine
end

section
/-!
PROOF. The control commands that read the fault registers and `DEVID`, the one that writes `DEVID`, and `NOP`
(`spec/43_control.md` R200, R202 to R207).
-/

namespace Sys2Proof.Machine

/-- Settles O7: `NOP` has no row in R221, and its effect is the state itself. -/
theorem nopChangesNothing : Obligations.NopChangesNothing :=
  fun v _ => ⟨decodeCommand_append 0x00#8 v, exec_of_faultOf_eq_none rfl⟩

/-- R52, R202: a byte below 64 has the reserved bits 7 and 6 of `ERR` clear. -/
theorem topBits_eq_zero_of_lt {e : Byte} (h : e.toNat < 64) : e.extractLsb' 6 2 = 0#2 := by
  have hShift : e.toNat >>> 6 = 0 := Nat.shiftRight_eq_zero _ _ h
  apply BitVec.eq_of_toNat_eq
  simp [hShift]

/-- Settles O24: none of the five reads has a row in R221; the word is put together from its two halves, and the
registers' invariant bounds `ERR` and clears the cause and the word with it. -/
theorem controlReadsAnswerTheirRegister : Obligations.ControlReadsAnswerTheirRegister := by
  intro v s
  refine ⟨decodeCommand_append 0x31#8 v, decodeCommand_append 0x32#8 v, decodeCommand_append 0x33#8 v,
    decodeCommand_append 0x34#8 v, decodeCommand_append 0x35#8 v, exec_of_faultOf_eq_none rfl,
    exec_of_faultOf_eq_none rfl, ?word, exec_of_faultOf_eq_none rfl, ?faults⟩
  case word =>
    exact ⟨wordHi s.errCmd, wordLo s.errCmd, exec_of_faultOf_eq_none rfl, exec_of_faultOf_eq_none rfl,
      (wordHi_append_wordLo s.errCmd).symm⟩
  case faults =>
    rintro ⟨hCause, hErr, -, hWord⟩
    exact ⟨topBits_eq_zero_of_lt hErr, fun hClear => ⟨hCause.mp hClear, hWord hClear⟩⟩

/-- Settles O25: the command has no row in R221, and `DEVID` is no latch that a frame byte is read from. -/
theorem cfgDevIdWritesTheDeviceId : Obligations.CfgDevIdWritesTheDeviceId :=
  fun d s => ⟨decodeCommand_append 0x36#8 d, effect (.cfgDevId d) s, exec_of_faultOf_eq_none rfl, rfl,
    frameByte_congr rfl⟩

end Sys2Proof.Machine
end

section
/-!
PROOF. Fault entry: what a command that meets a condition of its row leaves (`spec/60_exceptions.md` R220, R224, R225).
-/

namespace Sys2Proof.Machine

/-- R220, R224: the bit of a fault is the one its code names, counted from code 1 at bit 0. Codes start at 1, so the
subtraction of the rule never meets zero. -/
theorem errBit_eq_shiftLeft (f : FaultKind) : errBit f = 0x01#8 <<< ((faultCode f).toNat - 1) := by
  cases f <;> rfl

/-- R221, R222, R224, R225: a command that meets a condition of its row takes that fault into the record and, when it
is of the response class, answers `0x00`. -/
theorem exec_of_faultOf {i : Instr} {f : FaultKind} {s : State} (hf : faultOf s i = some f) :
    exec i s = .next { recordFault f (commandWord i) s with
      response := if responds i = true then some 0x00#8 else s.response } := by
  rw [exec_eq, hf, Option.elim_some, raise_eq]

/-- Settles O29: the fault of the row is raised, and the bit that the record gains is the one of the fault's code. -/
theorem faultingCommandsOnlyRecord : Obligations.FaultingCommandsOnlyRecord := by
  intro i s f hf
  rw [exec_of_faultOf hf, recordFault, errBit_eq_shiftLeft]

end Sys2Proof.Machine
end

section
/-!
PROOF. What holds of every reachable state (`spec/10_state.md` R45, R60): the invariant as logs 9 and 10 correct it. The
two clauses as the spec words them fail, each after a short run from power-on.
-/

namespace Sys2Proof.Machine

/-- Settles O39: taking the input touches only the agenda and the ports, and what the input does keeps the invariant.
With no input the block waits. -/
theorem everyStepKeepsTheInvariant : Obligations.EveryStepKeepsTheInvariant := by
  intro s t h ht
  cases hTake : takeInput s with
  | none =>
    rw [step, hTake] at ht
    cases ht
    exact h
  | some xu =>
    obtain ⟨x, u⟩ := xu
    rw [step_of_takeInput hTake] at ht
    obtain rfl := takeInput_eq_openPorts hTake
    exact blockInv_runInput (blockInv_openPorts h _) ht

/-- A run from a reachable state ends in one. -/
theorem Reachable.of_runSteps {n : Nat} {s t : State} (h : Reachable s) (hRun : runSteps n s = .next t) :
    Reachable t := by
  induction n generalizing s with
  | zero =>
    cases hRun
    exact h
  | succ n ih =>
    rw [runSteps] at hRun
    split at hRun
    · next u hStep => exact ih (.next s u h hStep) hRun
    · cases hRun
    · cases hRun

/-- The block of the two runs below: a queue of one byte, and the default device id (R6). -/
def params1 : Params := { rxDepth := 1, bitsPerChar := 10, devIdReset := 0x16#8 }

theorem reachable_of_runSteps_powerOn {n : Nat} {xs : List Input} {t : State}
    (hRun : runSteps n { State.powerOn params1 with agenda := xs } = .next t) : Reachable t :=
  (Reachable.powerOn params1 xs (by decide)).of_runSteps hRun

/-- Refutes O41: `CAP_START`, one arrival and one `CAP_CHECK`, R177's own example. In `WAIT` the byte is stored and its
iteration not yet counted (log 9). -/
theorem not_storedNeverExceedsIterationsAsWorded : ¬ Obligations.StoredNeverExceedsIterationsAsWorded := by
  intro h
  have hRun : runSteps 3 { State.powerOn params1 with
        agenda := [.command (commandWord (.capStart 0x00#8)), .rxArrive 0x41#8, .capCheck] } =
      .next { State.powerOn params1 with capState := .wait, widx := 1#9, buf := [(0, 0x41#8)] } := rfl
  exact absurd (h _ (reachable_of_runSteps_powerOn hRun)) (by decide)

/-- Refutes O42: a manual-control frame has a payload of one byte and leaves `E_POS` at 19 (R151; program P2 of
`spec/95_test_vectors.md`); `ENC_BEGIN` then clears `PLEN` and not `E_POS` (R142; log 10). -/
theorem not_positionBoundOutsideEmitAsWorded : ¬ Obligations.PositionBoundOutsideEmitAsWorded := by
  intro h
  obtain ⟨t, hRun, hEnc, hPos, hLen⟩ : ∃ t,
      runSteps 21 { State.powerOn params1 with
        agenda := .command (commandWord (.encManual 0x01#8)) :: List.replicate 19 .txAccept ++
          [.command (commandWord (.encBegin 0x42#8))] } = .next t ∧
      t.encState = .assemble ∧ t.ePos = 19#9 ∧ t.plen = 0x00#8 := ⟨_, rfl, rfl, rfl, rfl⟩
  have hBound := h t (reachable_of_runSteps_powerOn hRun) (by simp [hEnc])
  rw [hPos, hLen] at hBound
  exact absurd hBound (by decide)

end Sys2Proof.Machine
end

section
/-!
PROOF. `RESET` outside the block's own elements (`spec/43_control.md` R208, log 14), and the link codes that reach the
block (`spec/30_encoding.md` R102, log 6).
-/

namespace Sys2Proof.Machine

/-- Settles O27: `RESET` completes with `resetBlock`, which carries these five over from the state before. -/
theorem resetKeepsWhatIsNotTheBlocks : Obligations.ResetKeepsWhatIsNotTheBlocks := by
  intro v s t ht
  obtain rfl : resetBlock s = t := Host.Outcome.next.inj ht
  exact ⟨resetBlock_params s, resetBlock_response s, resetBlock_raised s, resetBlock_txHistory s, resetBlock_agenda s⟩

/-- Settles O28: both rows hand their code to the receive queue like any byte of the link, with room or without. -/
theorem linkCodesJoinTheReceiveQueue : Obligations.LinkCodesJoinTheReceiveQueue := fun _ =>
  ⟨fun hRoom => ⟨congrArg _ (receiveByte_of_room cmdTelemetry hRoom), congrArg _ (receiveByte_of_room cmdManual hRoom)⟩,
    fun hFull => ⟨congrArg _ (receiveByte_of_full cmdTelemetry hFull), congrArg _ (receiveByte_of_full cmdManual hFull)⟩⟩

end Sys2Proof.Machine
end
